-- ==== Sys2Proof/Word.lean ====
section
/-! DEFINITION. The two widths of the machine: bytes (register halves, bus data) and 16-bit words
(register pairs, PC, SP, bus addresses), R7 and R8 of spec/00_scope.md. -/

namespace Sys2Proof

/-- A byte: bits 7..0 (R8). -/
abbrev Byte := BitVec 8

/-- A 16-bit value: a register pair, PC, SP or a bus address (R7, R8). -/
abbrev Word := BitVec 16

/-- The cycle counter's type, `CYC_WIDTH` = 32 bits (R7, R37, D4). -/
abbrev Cycles := BitVec 32

end Sys2Proof
end

