-- ==== Sys2Proof/Config.lean ====
section
/-! DEFINITION. The implementation parameters of spec/00_scope.md R7 that are not widths or sizes.
Each policy is a type of the spec's alternatives; the value THIS hardware takes is the constant beside it.
`INIT_MEM` is no constant: it is an argument of `State.init` and `State.load`. -/

namespace Sys2Proof

/-- `UNDEF_POLICY` (R7, R375): what the eleven undefined primary opcodes do. -/
inductive UndefPolicy where
  | nop
  | fault
deriving DecidableEq, Repr

/-- `HALT_POLICY` (R7, R371). -/
inductive HaltPolicy where
  | nop
  | stuck
deriving DecidableEq, Repr

/-- `CART_OOB` (R7, R114): a cartridge read beyond the end of the image. -/
inductive CartOob where
  | fault
  | draw
deriving DecidableEq, Repr

/-- `BRANCH_TIMING` (R7, R330): whether a conditional transfer's duration depends on its outcome. -/
inductive BranchTiming where
  | hardware
  | single
deriving DecidableEq, Repr

/-- This hardware's value (R7, D6). -/
def Config.undefPolicy : UndefPolicy := .nop

/-- This hardware's value (R7, D7). -/
def Config.haltPolicy : HaltPolicy := .nop

/-- This hardware's value (R7, D21). -/
def Config.cartOob : CartOob := .fault

/-- This hardware's value (R7, D5). -/
def Config.branchTiming : BranchTiming := .hardware

/-- FREE VALUE, DESIGN CHOICE (log entry 2): the byte a read of image offset `i` beyond the image returns under
`CART_OOB = draw`, the alternative this hardware does not take (R114). It has no body, so nothing can be proved of it.
It is applied to the image offset and the cycle counter, the plain counter of State that every step advances. -/
opaque Config.oobByte : Nat → Cycles → Byte

end Sys2Proof
end

