-- ==== Sys2Proof/WellFormed.lean ====
section
/-! DEFINITION. Which instruction terms are the reading of some instruction bytes. Every operand field is a bit vector of
its own width, so the one check is about the prefix slot: the words 0xCB, n ARE the extended instruction n (R163, R164),
so the bare slot `prefixCb n`, which names the same words by the primary table, is not the canonical reading. -/

namespace Sys2Proof

/-- The canonical instructions: all but the bare prefix slot (R163: the whole two-byte instruction is one instruction,
the extended one). -/
def Instr.wellFormed (i : Instr) : Bool :=
  match i with
  | .prefixCb _ => false
  | _ => true

/-- `i` is the reading of its own words. -/
abbrev WellFormed (i : Instr) : Prop := i.wellFormed = true

end Sys2Proof
end

