-- ==== Sys2Proof/Decode.lean ====
section
/-! DEFINITION. Instruction bytes to instructions and back. The decoder is written from the FIELDS of the encoding
(R153 to R168: x, y, z, p, q and the operand tables), the encoder from the opcode BYTES of the maps (R169, R170), so that
each checks the other. The byte helpers both use stand here too. -/

namespace Sys2Proof

/-! ## Byte order (R8, R91, R162) -/

/-- `v[7:0]` (R8). -/
def loByte (v : Word) : Byte := v.extractLsb' 0 8

/-- `v[15:8]` (R8). -/
def hiByte (v : Word) : Byte := v.extractLsb' 8 8

/-- `hi ++ lo`, the 16-bit `(hi << 8) | lo` (R8). -/
def join (hi lo : Byte) : Word := (hi.setWidth 16 <<< 8) ||| lo.setWidth 16

/-! ## Forms: the rows of the table by rule and operand field -/

namespace Form

/-- Choose by register. -/
def byReg (r : Reg8) (xb xc xd xe xh xl xa : Instr) : Instr :=
  match r with
  | .b => xb
  | .c => xc
  | .d => xd
  | .e => xe
  | .h => xh
  | .l => xl
  | .a => xa

/-- Choose by operand field, in the order B, C, D, E, H, L, (HL), A of R157. -/
def byOperand (o : Operand8) (xb xc xd xe xh xl xm xa : Instr) : Instr :=
  match o with
  | .reg r => byReg r xb xc xd xe xh xl xa
  | .indHl => xm

/-- Choose by condition (R160). -/
def byCond (cc : Cond) (xnz xz xnc xc : Instr) : Instr :=
  match cc with
  | .nz => xnz
  | .z => xz
  | .nc => xnc
  | .c => xc

/-- Choose by register pair (R158). -/
def byPair (rr : Pair) (xbc xde xhl xsp : Instr) : Instr :=
  match rr with
  | .bc => xbc
  | .de => xde
  | .hl => xhl
  | .sp => xsp

/-- Choose by stack pair (R159). -/
def byStackPair (qq : StackPair) (xbc xde xhl xaf : Instr) : Instr :=
  match qq with
  | .bc => xbc
  | .de => xde
  | .hl => xhl
  | .af => xaf

/-- Choose by a 3-bit number: a bit number (R164) or a restart field (R161). -/
def byNum (n : BitVec 3) (x0 x1 x2 x3 x4 x5 x6 x7 : Instr) : Instr :=
  match n.toNat with
  | 0 => x0
  | 1 => x1
  | 2 => x2
  | 3 => x3
  | 4 => x4
  | 5 => x5
  | 6 => x6
  | _ => x7

/-- LD r,r' (R200): 49 encodings. -/
def ldReg (dst src : Reg8) : Instr :=
  match dst with
  | .b => byReg src .ldBB .ldBC .ldBD .ldBE .ldBH .ldBL .ldBA
  | .c => byReg src .ldCB .ldCC .ldCD .ldCE .ldCH .ldCL .ldCA
  | .d => byReg src .ldDB .ldDC .ldDD .ldDE .ldDH .ldDL .ldDA
  | .e => byReg src .ldEB .ldEC .ldED .ldEE .ldEH .ldEL .ldEA
  | .h => byReg src .ldHB .ldHC .ldHD .ldHE .ldHH .ldHL .ldHA
  | .l => byReg src .ldLB .ldLC .ldLD .ldLE .ldLH .ldLL .ldLA
  | .a => byReg src .ldAB .ldAC .ldAD .ldAE .ldAH .ldAL .ldAA

/-- LD r,(HL) (R201). -/
def ldFromHl (dst : Reg8) : Instr := byReg dst .ldBIndHl .ldCIndHl .ldDIndHl .ldEIndHl .ldHIndHl .ldLIndHl .ldAIndHl

/-- LD (HL),r (R202). -/
def ldToHl (src : Reg8) : Instr := byReg src .ldIndHlB .ldIndHlC .ldIndHlD .ldIndHlE .ldIndHlH .ldIndHlL .ldIndHlA

/-- LD r,d8 (R203). -/
def ldRegImm (dst : Reg8) (d8 : Byte) : Instr :=
  byReg dst (.ldBD8 d8) (.ldCD8 d8) (.ldDD8 d8) (.ldED8 d8) (.ldHD8 d8) (.ldLD8 d8) (.ldAD8 d8)

/-- LD r,d8 and LD (HL),d8 (R203, R204): the field y of `00 yyy 110`. -/
def ldImm (o : Operand8) (d8 : Byte) : Instr :=
  match o with
  | .reg dst => ldRegImm dst d8
  | .indHl => .ldIndHlD8 d8

/-- LD rr,d16 (R219). -/
def ldPair (rr : Pair) (d16 : Word) : Instr :=
  byPair rr (.ldBcD16 d16) (.ldDeD16 d16) (.ldHlD16 d16) (.ldSpD16 d16)

/-- INC rr (R291). -/
def incPair (rr : Pair) : Instr := byPair rr .incBc .incDe .incHl .incSp

/-- DEC rr (R292). -/
def decPair (rr : Pair) : Instr := byPair rr .decBc .decDe .decHl .decSp

/-- ADD HL,rr (R290). -/
def addHl (rr : Pair) : Instr := byPair rr .addHlBc .addHlDe .addHlHl .addHlSp

/-- PUSH qq (R222). -/
def push (qq : StackPair) : Instr := byStackPair qq .pushBc .pushDe .pushHl .pushAf

/-- POP qq (R223). -/
def pop (qq : StackPair) : Instr := byStackPair qq .popBc .popDe .popHl .popAf

/-- INC r and INC (HL) (R284, R285). -/
def inc (o : Operand8) : Instr := byOperand o .incB .incC .incD .incE .incH .incL .incIndHl .incA

/-- DEC r and DEC (HL) (R286, R287). -/
def dec (o : Operand8) : Instr := byOperand o .decB .decC .decD .decE .decH .decL .decIndHl .decA

/-- The 8-bit ALU instructions with a register or (HL) source (R250): `10 ooo rrr`. -/
def alu (op : AluOp) (o : Operand8) : Instr :=
  match op with
  | .add => byOperand o .addAB .addAC .addAD .addAE .addAH .addAL .addAIndHl .addAA
  | .adc => byOperand o .adcAB .adcAC .adcAD .adcAE .adcAH .adcAL .adcAIndHl .adcAA
  | .sub => byOperand o .subB .subC .subD .subE .subH .subL .subIndHl .subA
  | .sbc => byOperand o .sbcAB .sbcAC .sbcAD .sbcAE .sbcAH .sbcAL .sbcAIndHl .sbcAA
  | .and => byOperand o .andB .andC .andD .andE .andH .andL .andIndHl .andA
  | .xor => byOperand o .xorB .xorC .xorD .xorE .xorH .xorL .xorIndHl .xorA
  | .or => byOperand o .orB .orC .orD .orE .orH .orL .orIndHl .orA
  | .cp => byOperand o .cpB .cpC .cpD .cpE .cpH .cpL .cpIndHl .cpA

/-- The 8-bit ALU instructions with an immediate source (R250): `11 ooo 110`, d8. -/
def aluImm (op : AluOp) (d8 : Byte) : Instr :=
  match op with
  | .add => .addAD8 d8
  | .adc => .adcAD8 d8
  | .sub => .subD8 d8
  | .sbc => .sbcAD8 d8
  | .and => .andD8 d8
  | .xor => .xorD8 d8
  | .or => .orD8 d8
  | .cp => .cpD8 d8

/-- RLCA, RRCA, RLA, RRA (R310 to R313). -/
def accRotate (r : AccRotate) : Instr :=
  match r with
  | .rlca => .rlca
  | .rrca => .rrca
  | .rla => .rla
  | .rra => .rra

/-- JR cc,e8 (R335). -/
def jrCc (cc : Cond) (e8 : Byte) : Instr :=
  byCond cc (.jrNzE8 e8) (.jrZE8 e8) (.jrNcE8 e8) (.jrCE8 e8)

/-- JP cc,a16 (R332). -/
def jpCc (cc : Cond) (a16 : Word) : Instr :=
  byCond cc (.jpNzA16 a16) (.jpZA16 a16) (.jpNcA16 a16) (.jpCA16 a16)

/-- CALL cc,a16 (R337). -/
def callCc (cc : Cond) (a16 : Word) : Instr :=
  byCond cc (.callNzA16 a16) (.callZA16 a16) (.callNcA16 a16) (.callCA16 a16)

/-- RET cc (R339). -/
def retCc (cc : Cond) : Instr := byCond cc .retNz .retZ .retNc .retC

/-- RST t, t = 8 * y (R341). -/
def rst (y : BitVec 3) : Instr := byNum y .rst00 .rst08 .rst10 .rst18 .rst20 .rst28 .rst30 .rst38

/-- The eleven undefined primary slots (R375). -/
def undef (u : UndefSlot) : Instr :=
  match u with
  | .xD3 => .undefD3
  | .xDB => .undefDB
  | .xDD => .undefDD
  | .xE3 => .undefE3
  | .xE4 => .undefE4
  | .xEB => .undefEB
  | .xEC => .undefEC
  | .xED => .undefED
  | .xF4 => .undefF4
  | .xFC => .undefFC
  | .xFD => .undefFD

/-- CB shifts and rotates (R391 to R406): `00 ooo rrr`. -/
def shift (op : ShiftOp) (o : Operand8) : Instr :=
  match op with
  | .rlc => byOperand o .rlcB .rlcC .rlcD .rlcE .rlcH .rlcL .rlcIndHl .rlcA
  | .rrc => byOperand o .rrcB .rrcC .rrcD .rrcE .rrcH .rrcL .rrcIndHl .rrcA
  | .rl => byOperand o .rlB .rlC .rlD .rlE .rlH .rlL .rlIndHl .rlA
  | .rr => byOperand o .rrB .rrC .rrD .rrE .rrH .rrL .rrIndHl .rrA
  | .sla => byOperand o .slaB .slaC .slaD .slaE .slaH .slaL .slaIndHl .slaA
  | .sra => byOperand o .sraB .sraC .sraD .sraE .sraH .sraL .sraIndHl .sraA
  | .swap => byOperand o .swapB .swapC .swapD .swapE .swapH .swapL .swapIndHl .swapA
  | .srl => byOperand o .srlB .srlC .srlD .srlE .srlH .srlL .srlIndHl .srlA

/-- BIT b,r and BIT b,(HL) (R420, R421): `01 bbb rrr`. -/
def bit (n : BitVec 3) (o : Operand8) : Instr :=
  byNum n
    (byOperand o .bit0B .bit0C .bit0D .bit0E .bit0H .bit0L .bit0IndHl .bit0A)
    (byOperand o .bit1B .bit1C .bit1D .bit1E .bit1H .bit1L .bit1IndHl .bit1A)
    (byOperand o .bit2B .bit2C .bit2D .bit2E .bit2H .bit2L .bit2IndHl .bit2A)
    (byOperand o .bit3B .bit3C .bit3D .bit3E .bit3H .bit3L .bit3IndHl .bit3A)
    (byOperand o .bit4B .bit4C .bit4D .bit4E .bit4H .bit4L .bit4IndHl .bit4A)
    (byOperand o .bit5B .bit5C .bit5D .bit5E .bit5H .bit5L .bit5IndHl .bit5A)
    (byOperand o .bit6B .bit6C .bit6D .bit6E .bit6H .bit6L .bit6IndHl .bit6A)
    (byOperand o .bit7B .bit7C .bit7D .bit7E .bit7H .bit7L .bit7IndHl .bit7A)

/-- RES b,r and RES b,(HL) (R422, R423): `10 bbb rrr`. -/
def res (n : BitVec 3) (o : Operand8) : Instr :=
  byNum n
    (byOperand o .res0B .res0C .res0D .res0E .res0H .res0L .res0IndHl .res0A)
    (byOperand o .res1B .res1C .res1D .res1E .res1H .res1L .res1IndHl .res1A)
    (byOperand o .res2B .res2C .res2D .res2E .res2H .res2L .res2IndHl .res2A)
    (byOperand o .res3B .res3C .res3D .res3E .res3H .res3L .res3IndHl .res3A)
    (byOperand o .res4B .res4C .res4D .res4E .res4H .res4L .res4IndHl .res4A)
    (byOperand o .res5B .res5C .res5D .res5E .res5H .res5L .res5IndHl .res5A)
    (byOperand o .res6B .res6C .res6D .res6E .res6H .res6L .res6IndHl .res6A)
    (byOperand o .res7B .res7C .res7D .res7E .res7H .res7L .res7IndHl .res7A)

/-- SET b,r and SET b,(HL) (R424, R425): `11 bbb rrr`. -/
def set (n : BitVec 3) (o : Operand8) : Instr :=
  byNum n
    (byOperand o .set0B .set0C .set0D .set0E .set0H .set0L .set0IndHl .set0A)
    (byOperand o .set1B .set1C .set1D .set1E .set1H .set1L .set1IndHl .set1A)
    (byOperand o .set2B .set2C .set2D .set2E .set2H .set2L .set2IndHl .set2A)
    (byOperand o .set3B .set3C .set3D .set3E .set3H .set3L .set3IndHl .set3A)
    (byOperand o .set4B .set4C .set4D .set4E .set4H .set4L .set4IndHl .set4A)
    (byOperand o .set5B .set5C .set5D .set5E .set5H .set5L .set5IndHl .set5A)
    (byOperand o .set6B .set6C .set6D .set6E .set6H .set6L .set6IndHl .set6A)
    (byOperand o .set7B .set7C .set7D .set7E .set7H .set7L .set7IndHl .set7A)

end Form

/-! ## Fields (R154, R157 to R161, R164) -/

/-- `op[7:6]`. -/
def fieldX (op : Byte) : Nat := op.toNat / 64

/-- `op[5:3]`. -/
def fieldY (op : Byte) : Nat := op.toNat / 8 % 8

/-- `op[2:0]`. -/
def fieldZ (op : Byte) : Nat := op.toNat % 8

/-- `op[5:4]`. -/
def fieldP (op : Byte) : Nat := op.toNat / 16 % 4

/-- `op[3]`. -/
def fieldQ (op : Byte) : Nat := op.toNat / 8 % 2

/-- The operand-register field r (R157). -/
def operandField (n : Nat) : Operand8 :=
  match n with
  | 0 => .reg .b
  | 1 => .reg .c
  | 2 => .reg .d
  | 3 => .reg .e
  | 4 => .reg .h
  | 5 => .reg .l
  | 6 => .indHl
  | _ => .reg .a

/-- The register-pair field rr (R158). -/
def pairField (n : Nat) : Pair :=
  match n with
  | 0 => .bc
  | 1 => .de
  | 2 => .hl
  | _ => .sp

/-- The stack register-pair field qq (R159). -/
def stackPairField (n : Nat) : StackPair :=
  match n with
  | 0 => .bc
  | 1 => .de
  | 2 => .hl
  | _ => .af

/-- The condition field cc (R160). -/
def condField (n : Nat) : Cond :=
  match n with
  | 0 => .nz
  | 1 => .z
  | 2 => .nc
  | _ => .c

/-- The ALU operation field (R156). -/
def aluField (n : Nat) : AluOp :=
  match n with
  | 0 => .add
  | 1 => .adc
  | 2 => .sub
  | 3 => .sbc
  | 4 => .and
  | 5 => .xor
  | 6 => .or
  | _ => .cp

/-- The shift group field (R164). -/
def shiftField (n : Nat) : ShiftOp :=
  match n with
  | 0 => .rlc
  | 1 => .rrc
  | 2 => .rl
  | 3 => .rr
  | 4 => .sla
  | 5 => .sra
  | 6 => .swap
  | _ => .srl

/-! ## Field codes: the bits an operand stands for in an opcode byte (R156 to R160, R164) -/

/-- The code of a register in a field r (R157). -/
def regCode (r : Reg8) : BitVec 3 :=
  match r with
  | .b => 0
  | .c => 1
  | .d => 2
  | .e => 3
  | .h => 4
  | .l => 5
  | .a => 7

/-- The code of an operand in a field r (R157). -/
def operandCode (o : Operand8) : BitVec 3 :=
  match o with
  | .reg r => regCode r
  | .indHl => 6

/-- The code of a register pair (R158). -/
def pairCode (rr : Pair) : BitVec 2 :=
  match rr with
  | .bc => 0
  | .de => 1
  | .hl => 2
  | .sp => 3

/-- The code of a stack register pair (R159). -/
def stackPairCode (qq : StackPair) : BitVec 2 :=
  match qq with
  | .bc => 0
  | .de => 1
  | .hl => 2
  | .af => 3

/-- The code of a condition (R160). -/
def condCode (cc : Cond) : BitVec 2 :=
  match cc with
  | .nz => 0
  | .z => 1
  | .nc => 2
  | .c => 3

/-- The code of an ALU operation (R156). -/
def aluCode (op : AluOp) : BitVec 3 :=
  match op with
  | .add => 0
  | .adc => 1
  | .sub => 2
  | .sbc => 3
  | .and => 4
  | .xor => 5
  | .or => 6
  | .cp => 7

/-- The code of a shift group (R164). -/
def shiftCode (op : ShiftOp) : BitVec 3 :=
  match op with
  | .rlc => 0
  | .rrc => 1
  | .rl => 2
  | .rr => 3
  | .sla => 4
  | .sra => 5
  | .swap => 6
  | .srl => 7

/-- The opcode byte of an undefined slot (R165). -/
def undefCode (u : UndefSlot) : Byte :=
  match u with
  | .xD3 => 0xD3
  | .xDB => 0xDB
  | .xDD => 0xDD
  | .xE3 => 0xE3
  | .xE4 => 0xE4
  | .xEB => 0xEB
  | .xEC => 0xEC
  | .xED => 0xED
  | .xF4 => 0xF4
  | .xFC => 0xFC
  | .xFD => 0xFD

/-! ## The primary map by quadrant (R154). `b1` and `b2` are the bytes after the opcode; a slot uses those it fetches. -/

/-- Quadrant x = 0 (R154): miscellaneous, 16-bit loads, INC, DEC, immediate loads, accumulator and flag operations. -/
def quadrant0 (op b1 b2 : Byte) : Instr :=
  let y := fieldY op
  let p := fieldP op
  match fieldZ op with
  | 0 =>
    match y with
    | 0 => .nop
    | 1 => .ldIndA16Sp (join b2 b1)
    | 2 => .stop
    | 3 => .jrE8 b1
    | _ => Form.jrCc (condField (y - 4)) b1
  | 1 => if fieldQ op = 0 then Form.ldPair (pairField p) (join b2 b1) else Form.addHl (pairField p)
  | 2 =>
    match y with
    | 0 => .ldIndBcA
    | 1 => .ldAIndBc
    | 2 => .ldIndDeA
    | 3 => .ldAIndDe
    | 4 => .ldIndHlIncA
    | 5 => .ldAIndHlInc
    | 6 => .ldIndHlDecA
    | _ => .ldAIndHlDec
  | 3 => if fieldQ op = 0 then Form.incPair (pairField p) else Form.decPair (pairField p)
  | 4 => Form.inc (operandField y)
  | 5 => Form.dec (operandField y)
  | 6 => Form.ldImm (operandField y) b1
  | _ =>
    match y with
    | 0 => .rlca
    | 1 => .rrca
    | 2 => .rla
    | 3 => .rra
    | 4 => .daa
    | 5 => .cpl
    | 6 => .scf
    | _ => .ccf

/-- Quadrant x = 1 (R155): LD r[y],r[z], and HALT where both are 6. -/
def quadrant1 (op : Byte) : Instr :=
  match operandField (fieldY op), operandField (fieldZ op) with
  | .reg dst, .reg src => Form.ldReg dst src
  | .reg dst, .indHl => Form.ldFromHl dst
  | .indHl, .reg src => Form.ldToHl src
  | .indHl, .indHl => .halt

/-- Quadrant x = 3 (R154): control transfer, stack, high page, immediate ALU, RST and the CB prefix. -/
def quadrant3 (op b1 b2 : Byte) : Instr :=
  let y := fieldY op
  let p := fieldP op
  match fieldZ op with
  | 0 =>
    match y with
    | 4 => .ldhIndA8A b1
    | 5 => .addSpE8 b1
    | 6 => .ldhAIndA8 b1
    | 7 => .ldHlSpE8 b1
    | _ => Form.retCc (condField y)
  | 1 =>
    if fieldQ op = 0 then Form.pop (stackPairField p)
    else
      match p with
      | 0 => .ret
      | 1 => .reti
      | 2 => .jpHl
      | _ => .ldSpHl
  | 2 =>
    match y with
    | 4 => .ldIndCA
    | 5 => .ldIndA16A (join b2 b1)
    | 6 => .ldAIndC
    | 7 => .ldAIndA16 (join b2 b1)
    | _ => Form.jpCc (condField y) (join b2 b1)
  | 3 =>
    match y with
    | 0 => .jpA16 (join b2 b1)
    | 1 => .prefixCb b1
    | 2 => Form.undef .xD3
    | 3 => Form.undef .xDB
    | 4 => Form.undef .xE3
    | 5 => Form.undef .xEB
    | 6 => .di
    | _ => .ei
  | 4 =>
    match y with
    | 4 => Form.undef .xE4
    | 5 => Form.undef .xEC
    | 6 => Form.undef .xF4
    | 7 => Form.undef .xFC
    | _ => Form.callCc (condField y) (join b2 b1)
  | 5 =>
    if fieldQ op = 0 then Form.push (stackPairField p)
    else
      match p with
      | 0 => .callA16 (join b2 b1)
      | 1 => Form.undef .xDD
      | 2 => Form.undef .xED
      | _ => Form.undef .xFD
  | 6 => Form.aluImm (aluField y) b1
  | _ => Form.rst (BitVec.ofNat 3 y)

/-- The primary slot of opcode `op` with the operand bytes it fetches (R150, R154); slot 0xCB is `prefixCb`. -/
def decodePrimary (op b1 b2 : Byte) : Instr :=
  match fieldX op with
  | 0 => quadrant0 op b1 b2
  | 1 => quadrant1 op
  | 2 => Form.alu (aluField (fieldY op)) (operandField (fieldZ op))
  | _ => quadrant3 op b1 b2

/-- The extended instruction of second byte `n` (R164). -/
def decodeExtended (n : Byte) : Instr :=
  let o := operandField (fieldZ n)
  match fieldX n with
  | 0 => Form.shift (shiftField (fieldY n)) o
  | 1 => Form.bit (BitVec.ofNat 3 (fieldY n)) o
  | 2 => Form.res (BitVec.ofNat 3 (fieldY n)) o
  | _ => Form.set (BitVec.ofNat 3 (fieldY n)) o

/-- The instruction that starts with `op`, its next bytes being `b1` and `b2`: through the prefix, the words 0xCB, n are
the extended instruction n (R163). Total: every index of both tables has an instruction (R152). -/
def decodeInstr (op b1 b2 : Byte) : Instr :=
  if op = 0xCB then decodeExtended b1 else decodePrimary op b1 b2

/-- The opcodes of format F3, three bytes (R167). -/
def threeByteOpcodes : List Byte :=
  [0x01, 0x11, 0x21, 0x31, 0x08, 0xC2, 0xC3, 0xC4, 0xCA, 0xCC, 0xCD, 0xD2, 0xD4, 0xDA, 0xDC, 0xEA, 0xFA]

/-- The opcodes of formats F2, F2a, F2e and the prefix, two bytes (R167). -/
def twoByteOpcodes : List Byte :=
  [0xCB, 0x06, 0x0E, 0x16, 0x1E, 0x26, 0x2E, 0x36, 0x3E, 0xC6, 0xCE, 0xD6, 0xDE, 0xE6, 0xEE, 0xF6, 0xFE] ++
  [0xE0, 0xF0, 0x18, 0x20, 0x28, 0x30, 0x38, 0xE8, 0xF8]

/-- The length of an instruction from its first byte (R167). -/
def instrLength (op : Byte) : Nat :=
  if threeByteOpcodes.contains op then 3 else if twoByteOpcodes.contains op then 2 else 1

/-- Why bytes are no instruction: only that they end too early (R152: no encoding is illegal). -/
inductive DecodeError where
  /-- fewer bytes than the instruction has -/
  | truncated
deriving DecidableEq, Repr

/-- The first instruction of a byte sequence and the bytes after it (R150, R151, R153). -/
def decode (bytes : List Byte) : Except DecodeError (Instr × List Byte) :=
  match bytes with
  | [] => .error .truncated
  | op :: rest =>
    match instrLength op, rest with
    | 1, rest => .ok (decodeInstr op 0 0, rest)
    | 2, b1 :: rest => .ok (decodeInstr op b1 0, rest)
    | 3, b1 :: b2 :: rest => .ok (decodeInstr op b1 b2, rest)
    | _, _ => .error .truncated

/-! ## The encoder, from the opcode maps (R169, R170) -/

/-- The bytes of an instruction, lowest address first. -/
def encode (i : Instr) : List Byte :=
  match i with
  | .nop => [0x00]
  | .ldBcD16 d16 => [0x01, loByte d16, hiByte d16]
  | .ldIndBcA => [0x02]
  | .incBc => [0x03]
  | .incB => [0x04]
  | .decB => [0x05]
  | .ldBD8 d8 => [0x06, d8]
  | .rlca => [0x07]
  | .ldIndA16Sp a16 => [0x08, loByte a16, hiByte a16]
  | .addHlBc => [0x09]
  | .ldAIndBc => [0x0A]
  | .decBc => [0x0B]
  | .incC => [0x0C]
  | .decC => [0x0D]
  | .ldCD8 d8 => [0x0E, d8]
  | .rrca => [0x0F]
  | .stop => [0x10]
  | .ldDeD16 d16 => [0x11, loByte d16, hiByte d16]
  | .ldIndDeA => [0x12]
  | .incDe => [0x13]
  | .incD => [0x14]
  | .decD => [0x15]
  | .ldDD8 d8 => [0x16, d8]
  | .rla => [0x17]
  | .jrE8 e8 => [0x18, e8]
  | .addHlDe => [0x19]
  | .ldAIndDe => [0x1A]
  | .decDe => [0x1B]
  | .incE => [0x1C]
  | .decE => [0x1D]
  | .ldED8 d8 => [0x1E, d8]
  | .rra => [0x1F]
  | .jrNzE8 e8 => [0x20, e8]
  | .ldHlD16 d16 => [0x21, loByte d16, hiByte d16]
  | .ldIndHlIncA => [0x22]
  | .incHl => [0x23]
  | .incH => [0x24]
  | .decH => [0x25]
  | .ldHD8 d8 => [0x26, d8]
  | .daa => [0x27]
  | .jrZE8 e8 => [0x28, e8]
  | .addHlHl => [0x29]
  | .ldAIndHlInc => [0x2A]
  | .decHl => [0x2B]
  | .incL => [0x2C]
  | .decL => [0x2D]
  | .ldLD8 d8 => [0x2E, d8]
  | .cpl => [0x2F]
  | .jrNcE8 e8 => [0x30, e8]
  | .ldSpD16 d16 => [0x31, loByte d16, hiByte d16]
  | .ldIndHlDecA => [0x32]
  | .incSp => [0x33]
  | .incIndHl => [0x34]
  | .decIndHl => [0x35]
  | .ldIndHlD8 d8 => [0x36, d8]
  | .scf => [0x37]
  | .jrCE8 e8 => [0x38, e8]
  | .addHlSp => [0x39]
  | .ldAIndHlDec => [0x3A]
  | .decSp => [0x3B]
  | .incA => [0x3C]
  | .decA => [0x3D]
  | .ldAD8 d8 => [0x3E, d8]
  | .ccf => [0x3F]
  | .ldBB => [0x40]
  | .ldBC => [0x41]
  | .ldBD => [0x42]
  | .ldBE => [0x43]
  | .ldBH => [0x44]
  | .ldBL => [0x45]
  | .ldBIndHl => [0x46]
  | .ldBA => [0x47]
  | .ldCB => [0x48]
  | .ldCC => [0x49]
  | .ldCD => [0x4A]
  | .ldCE => [0x4B]
  | .ldCH => [0x4C]
  | .ldCL => [0x4D]
  | .ldCIndHl => [0x4E]
  | .ldCA => [0x4F]
  | .ldDB => [0x50]
  | .ldDC => [0x51]
  | .ldDD => [0x52]
  | .ldDE => [0x53]
  | .ldDH => [0x54]
  | .ldDL => [0x55]
  | .ldDIndHl => [0x56]
  | .ldDA => [0x57]
  | .ldEB => [0x58]
  | .ldEC => [0x59]
  | .ldED => [0x5A]
  | .ldEE => [0x5B]
  | .ldEH => [0x5C]
  | .ldEL => [0x5D]
  | .ldEIndHl => [0x5E]
  | .ldEA => [0x5F]
  | .ldHB => [0x60]
  | .ldHC => [0x61]
  | .ldHD => [0x62]
  | .ldHE => [0x63]
  | .ldHH => [0x64]
  | .ldHL => [0x65]
  | .ldHIndHl => [0x66]
  | .ldHA => [0x67]
  | .ldLB => [0x68]
  | .ldLC => [0x69]
  | .ldLD => [0x6A]
  | .ldLE => [0x6B]
  | .ldLH => [0x6C]
  | .ldLL => [0x6D]
  | .ldLIndHl => [0x6E]
  | .ldLA => [0x6F]
  | .ldIndHlB => [0x70]
  | .ldIndHlC => [0x71]
  | .ldIndHlD => [0x72]
  | .ldIndHlE => [0x73]
  | .ldIndHlH => [0x74]
  | .ldIndHlL => [0x75]
  | .halt => [0x76]
  | .ldIndHlA => [0x77]
  | .ldAB => [0x78]
  | .ldAC => [0x79]
  | .ldAD => [0x7A]
  | .ldAE => [0x7B]
  | .ldAH => [0x7C]
  | .ldAL => [0x7D]
  | .ldAIndHl => [0x7E]
  | .ldAA => [0x7F]
  | .addAB => [0x80]
  | .addAC => [0x81]
  | .addAD => [0x82]
  | .addAE => [0x83]
  | .addAH => [0x84]
  | .addAL => [0x85]
  | .addAIndHl => [0x86]
  | .addAA => [0x87]
  | .adcAB => [0x88]
  | .adcAC => [0x89]
  | .adcAD => [0x8A]
  | .adcAE => [0x8B]
  | .adcAH => [0x8C]
  | .adcAL => [0x8D]
  | .adcAIndHl => [0x8E]
  | .adcAA => [0x8F]
  | .subB => [0x90]
  | .subC => [0x91]
  | .subD => [0x92]
  | .subE => [0x93]
  | .subH => [0x94]
  | .subL => [0x95]
  | .subIndHl => [0x96]
  | .subA => [0x97]
  | .sbcAB => [0x98]
  | .sbcAC => [0x99]
  | .sbcAD => [0x9A]
  | .sbcAE => [0x9B]
  | .sbcAH => [0x9C]
  | .sbcAL => [0x9D]
  | .sbcAIndHl => [0x9E]
  | .sbcAA => [0x9F]
  | .andB => [0xA0]
  | .andC => [0xA1]
  | .andD => [0xA2]
  | .andE => [0xA3]
  | .andH => [0xA4]
  | .andL => [0xA5]
  | .andIndHl => [0xA6]
  | .andA => [0xA7]
  | .xorB => [0xA8]
  | .xorC => [0xA9]
  | .xorD => [0xAA]
  | .xorE => [0xAB]
  | .xorH => [0xAC]
  | .xorL => [0xAD]
  | .xorIndHl => [0xAE]
  | .xorA => [0xAF]
  | .orB => [0xB0]
  | .orC => [0xB1]
  | .orD => [0xB2]
  | .orE => [0xB3]
  | .orH => [0xB4]
  | .orL => [0xB5]
  | .orIndHl => [0xB6]
  | .orA => [0xB7]
  | .cpB => [0xB8]
  | .cpC => [0xB9]
  | .cpD => [0xBA]
  | .cpE => [0xBB]
  | .cpH => [0xBC]
  | .cpL => [0xBD]
  | .cpIndHl => [0xBE]
  | .cpA => [0xBF]
  | .retNz => [0xC0]
  | .popBc => [0xC1]
  | .jpNzA16 a16 => [0xC2, loByte a16, hiByte a16]
  | .jpA16 a16 => [0xC3, loByte a16, hiByte a16]
  | .callNzA16 a16 => [0xC4, loByte a16, hiByte a16]
  | .pushBc => [0xC5]
  | .addAD8 d8 => [0xC6, d8]
  | .rst00 => [0xC7]
  | .retZ => [0xC8]
  | .ret => [0xC9]
  | .jpZA16 a16 => [0xCA, loByte a16, hiByte a16]
  | .prefixCb n => [0xCB, n]
  | .callZA16 a16 => [0xCC, loByte a16, hiByte a16]
  | .callA16 a16 => [0xCD, loByte a16, hiByte a16]
  | .adcAD8 d8 => [0xCE, d8]
  | .rst08 => [0xCF]
  | .retNc => [0xD0]
  | .popDe => [0xD1]
  | .jpNcA16 a16 => [0xD2, loByte a16, hiByte a16]
  | .undefD3 => [0xD3]
  | .callNcA16 a16 => [0xD4, loByte a16, hiByte a16]
  | .pushDe => [0xD5]
  | .subD8 d8 => [0xD6, d8]
  | .rst10 => [0xD7]
  | .retC => [0xD8]
  | .reti => [0xD9]
  | .jpCA16 a16 => [0xDA, loByte a16, hiByte a16]
  | .undefDB => [0xDB]
  | .callCA16 a16 => [0xDC, loByte a16, hiByte a16]
  | .undefDD => [0xDD]
  | .sbcAD8 d8 => [0xDE, d8]
  | .rst18 => [0xDF]
  | .ldhIndA8A a8 => [0xE0, a8]
  | .popHl => [0xE1]
  | .ldIndCA => [0xE2]
  | .undefE3 => [0xE3]
  | .undefE4 => [0xE4]
  | .pushHl => [0xE5]
  | .andD8 d8 => [0xE6, d8]
  | .rst20 => [0xE7]
  | .addSpE8 e8 => [0xE8, e8]
  | .jpHl => [0xE9]
  | .ldIndA16A a16 => [0xEA, loByte a16, hiByte a16]
  | .undefEB => [0xEB]
  | .undefEC => [0xEC]
  | .undefED => [0xED]
  | .xorD8 d8 => [0xEE, d8]
  | .rst28 => [0xEF]
  | .ldhAIndA8 a8 => [0xF0, a8]
  | .popAf => [0xF1]
  | .ldAIndC => [0xF2]
  | .di => [0xF3]
  | .undefF4 => [0xF4]
  | .pushAf => [0xF5]
  | .orD8 d8 => [0xF6, d8]
  | .rst30 => [0xF7]
  | .ldHlSpE8 e8 => [0xF8, e8]
  | .ldSpHl => [0xF9]
  | .ldAIndA16 a16 => [0xFA, loByte a16, hiByte a16]
  | .ei => [0xFB]
  | .undefFC => [0xFC]
  | .undefFD => [0xFD]
  | .cpD8 d8 => [0xFE, d8]
  | .rst38 => [0xFF]
  | .rlcB => [0xCB, 0x00]
  | .rlcC => [0xCB, 0x01]
  | .rlcD => [0xCB, 0x02]
  | .rlcE => [0xCB, 0x03]
  | .rlcH => [0xCB, 0x04]
  | .rlcL => [0xCB, 0x05]
  | .rlcIndHl => [0xCB, 0x06]
  | .rlcA => [0xCB, 0x07]
  | .rrcB => [0xCB, 0x08]
  | .rrcC => [0xCB, 0x09]
  | .rrcD => [0xCB, 0x0A]
  | .rrcE => [0xCB, 0x0B]
  | .rrcH => [0xCB, 0x0C]
  | .rrcL => [0xCB, 0x0D]
  | .rrcIndHl => [0xCB, 0x0E]
  | .rrcA => [0xCB, 0x0F]
  | .rlB => [0xCB, 0x10]
  | .rlC => [0xCB, 0x11]
  | .rlD => [0xCB, 0x12]
  | .rlE => [0xCB, 0x13]
  | .rlH => [0xCB, 0x14]
  | .rlL => [0xCB, 0x15]
  | .rlIndHl => [0xCB, 0x16]
  | .rlA => [0xCB, 0x17]
  | .rrB => [0xCB, 0x18]
  | .rrC => [0xCB, 0x19]
  | .rrD => [0xCB, 0x1A]
  | .rrE => [0xCB, 0x1B]
  | .rrH => [0xCB, 0x1C]
  | .rrL => [0xCB, 0x1D]
  | .rrIndHl => [0xCB, 0x1E]
  | .rrA => [0xCB, 0x1F]
  | .slaB => [0xCB, 0x20]
  | .slaC => [0xCB, 0x21]
  | .slaD => [0xCB, 0x22]
  | .slaE => [0xCB, 0x23]
  | .slaH => [0xCB, 0x24]
  | .slaL => [0xCB, 0x25]
  | .slaIndHl => [0xCB, 0x26]
  | .slaA => [0xCB, 0x27]
  | .sraB => [0xCB, 0x28]
  | .sraC => [0xCB, 0x29]
  | .sraD => [0xCB, 0x2A]
  | .sraE => [0xCB, 0x2B]
  | .sraH => [0xCB, 0x2C]
  | .sraL => [0xCB, 0x2D]
  | .sraIndHl => [0xCB, 0x2E]
  | .sraA => [0xCB, 0x2F]
  | .swapB => [0xCB, 0x30]
  | .swapC => [0xCB, 0x31]
  | .swapD => [0xCB, 0x32]
  | .swapE => [0xCB, 0x33]
  | .swapH => [0xCB, 0x34]
  | .swapL => [0xCB, 0x35]
  | .swapIndHl => [0xCB, 0x36]
  | .swapA => [0xCB, 0x37]
  | .srlB => [0xCB, 0x38]
  | .srlC => [0xCB, 0x39]
  | .srlD => [0xCB, 0x3A]
  | .srlE => [0xCB, 0x3B]
  | .srlH => [0xCB, 0x3C]
  | .srlL => [0xCB, 0x3D]
  | .srlIndHl => [0xCB, 0x3E]
  | .srlA => [0xCB, 0x3F]
  | .bit0B => [0xCB, 0x40]
  | .bit0C => [0xCB, 0x41]
  | .bit0D => [0xCB, 0x42]
  | .bit0E => [0xCB, 0x43]
  | .bit0H => [0xCB, 0x44]
  | .bit0L => [0xCB, 0x45]
  | .bit0IndHl => [0xCB, 0x46]
  | .bit0A => [0xCB, 0x47]
  | .bit1B => [0xCB, 0x48]
  | .bit1C => [0xCB, 0x49]
  | .bit1D => [0xCB, 0x4A]
  | .bit1E => [0xCB, 0x4B]
  | .bit1H => [0xCB, 0x4C]
  | .bit1L => [0xCB, 0x4D]
  | .bit1IndHl => [0xCB, 0x4E]
  | .bit1A => [0xCB, 0x4F]
  | .bit2B => [0xCB, 0x50]
  | .bit2C => [0xCB, 0x51]
  | .bit2D => [0xCB, 0x52]
  | .bit2E => [0xCB, 0x53]
  | .bit2H => [0xCB, 0x54]
  | .bit2L => [0xCB, 0x55]
  | .bit2IndHl => [0xCB, 0x56]
  | .bit2A => [0xCB, 0x57]
  | .bit3B => [0xCB, 0x58]
  | .bit3C => [0xCB, 0x59]
  | .bit3D => [0xCB, 0x5A]
  | .bit3E => [0xCB, 0x5B]
  | .bit3H => [0xCB, 0x5C]
  | .bit3L => [0xCB, 0x5D]
  | .bit3IndHl => [0xCB, 0x5E]
  | .bit3A => [0xCB, 0x5F]
  | .bit4B => [0xCB, 0x60]
  | .bit4C => [0xCB, 0x61]
  | .bit4D => [0xCB, 0x62]
  | .bit4E => [0xCB, 0x63]
  | .bit4H => [0xCB, 0x64]
  | .bit4L => [0xCB, 0x65]
  | .bit4IndHl => [0xCB, 0x66]
  | .bit4A => [0xCB, 0x67]
  | .bit5B => [0xCB, 0x68]
  | .bit5C => [0xCB, 0x69]
  | .bit5D => [0xCB, 0x6A]
  | .bit5E => [0xCB, 0x6B]
  | .bit5H => [0xCB, 0x6C]
  | .bit5L => [0xCB, 0x6D]
  | .bit5IndHl => [0xCB, 0x6E]
  | .bit5A => [0xCB, 0x6F]
  | .bit6B => [0xCB, 0x70]
  | .bit6C => [0xCB, 0x71]
  | .bit6D => [0xCB, 0x72]
  | .bit6E => [0xCB, 0x73]
  | .bit6H => [0xCB, 0x74]
  | .bit6L => [0xCB, 0x75]
  | .bit6IndHl => [0xCB, 0x76]
  | .bit6A => [0xCB, 0x77]
  | .bit7B => [0xCB, 0x78]
  | .bit7C => [0xCB, 0x79]
  | .bit7D => [0xCB, 0x7A]
  | .bit7E => [0xCB, 0x7B]
  | .bit7H => [0xCB, 0x7C]
  | .bit7L => [0xCB, 0x7D]
  | .bit7IndHl => [0xCB, 0x7E]
  | .bit7A => [0xCB, 0x7F]
  | .res0B => [0xCB, 0x80]
  | .res0C => [0xCB, 0x81]
  | .res0D => [0xCB, 0x82]
  | .res0E => [0xCB, 0x83]
  | .res0H => [0xCB, 0x84]
  | .res0L => [0xCB, 0x85]
  | .res0IndHl => [0xCB, 0x86]
  | .res0A => [0xCB, 0x87]
  | .res1B => [0xCB, 0x88]
  | .res1C => [0xCB, 0x89]
  | .res1D => [0xCB, 0x8A]
  | .res1E => [0xCB, 0x8B]
  | .res1H => [0xCB, 0x8C]
  | .res1L => [0xCB, 0x8D]
  | .res1IndHl => [0xCB, 0x8E]
  | .res1A => [0xCB, 0x8F]
  | .res2B => [0xCB, 0x90]
  | .res2C => [0xCB, 0x91]
  | .res2D => [0xCB, 0x92]
  | .res2E => [0xCB, 0x93]
  | .res2H => [0xCB, 0x94]
  | .res2L => [0xCB, 0x95]
  | .res2IndHl => [0xCB, 0x96]
  | .res2A => [0xCB, 0x97]
  | .res3B => [0xCB, 0x98]
  | .res3C => [0xCB, 0x99]
  | .res3D => [0xCB, 0x9A]
  | .res3E => [0xCB, 0x9B]
  | .res3H => [0xCB, 0x9C]
  | .res3L => [0xCB, 0x9D]
  | .res3IndHl => [0xCB, 0x9E]
  | .res3A => [0xCB, 0x9F]
  | .res4B => [0xCB, 0xA0]
  | .res4C => [0xCB, 0xA1]
  | .res4D => [0xCB, 0xA2]
  | .res4E => [0xCB, 0xA3]
  | .res4H => [0xCB, 0xA4]
  | .res4L => [0xCB, 0xA5]
  | .res4IndHl => [0xCB, 0xA6]
  | .res4A => [0xCB, 0xA7]
  | .res5B => [0xCB, 0xA8]
  | .res5C => [0xCB, 0xA9]
  | .res5D => [0xCB, 0xAA]
  | .res5E => [0xCB, 0xAB]
  | .res5H => [0xCB, 0xAC]
  | .res5L => [0xCB, 0xAD]
  | .res5IndHl => [0xCB, 0xAE]
  | .res5A => [0xCB, 0xAF]
  | .res6B => [0xCB, 0xB0]
  | .res6C => [0xCB, 0xB1]
  | .res6D => [0xCB, 0xB2]
  | .res6E => [0xCB, 0xB3]
  | .res6H => [0xCB, 0xB4]
  | .res6L => [0xCB, 0xB5]
  | .res6IndHl => [0xCB, 0xB6]
  | .res6A => [0xCB, 0xB7]
  | .res7B => [0xCB, 0xB8]
  | .res7C => [0xCB, 0xB9]
  | .res7D => [0xCB, 0xBA]
  | .res7E => [0xCB, 0xBB]
  | .res7H => [0xCB, 0xBC]
  | .res7L => [0xCB, 0xBD]
  | .res7IndHl => [0xCB, 0xBE]
  | .res7A => [0xCB, 0xBF]
  | .set0B => [0xCB, 0xC0]
  | .set0C => [0xCB, 0xC1]
  | .set0D => [0xCB, 0xC2]
  | .set0E => [0xCB, 0xC3]
  | .set0H => [0xCB, 0xC4]
  | .set0L => [0xCB, 0xC5]
  | .set0IndHl => [0xCB, 0xC6]
  | .set0A => [0xCB, 0xC7]
  | .set1B => [0xCB, 0xC8]
  | .set1C => [0xCB, 0xC9]
  | .set1D => [0xCB, 0xCA]
  | .set1E => [0xCB, 0xCB]
  | .set1H => [0xCB, 0xCC]
  | .set1L => [0xCB, 0xCD]
  | .set1IndHl => [0xCB, 0xCE]
  | .set1A => [0xCB, 0xCF]
  | .set2B => [0xCB, 0xD0]
  | .set2C => [0xCB, 0xD1]
  | .set2D => [0xCB, 0xD2]
  | .set2E => [0xCB, 0xD3]
  | .set2H => [0xCB, 0xD4]
  | .set2L => [0xCB, 0xD5]
  | .set2IndHl => [0xCB, 0xD6]
  | .set2A => [0xCB, 0xD7]
  | .set3B => [0xCB, 0xD8]
  | .set3C => [0xCB, 0xD9]
  | .set3D => [0xCB, 0xDA]
  | .set3E => [0xCB, 0xDB]
  | .set3H => [0xCB, 0xDC]
  | .set3L => [0xCB, 0xDD]
  | .set3IndHl => [0xCB, 0xDE]
  | .set3A => [0xCB, 0xDF]
  | .set4B => [0xCB, 0xE0]
  | .set4C => [0xCB, 0xE1]
  | .set4D => [0xCB, 0xE2]
  | .set4E => [0xCB, 0xE3]
  | .set4H => [0xCB, 0xE4]
  | .set4L => [0xCB, 0xE5]
  | .set4IndHl => [0xCB, 0xE6]
  | .set4A => [0xCB, 0xE7]
  | .set5B => [0xCB, 0xE8]
  | .set5C => [0xCB, 0xE9]
  | .set5D => [0xCB, 0xEA]
  | .set5E => [0xCB, 0xEB]
  | .set5H => [0xCB, 0xEC]
  | .set5L => [0xCB, 0xED]
  | .set5IndHl => [0xCB, 0xEE]
  | .set5A => [0xCB, 0xEF]
  | .set6B => [0xCB, 0xF0]
  | .set6C => [0xCB, 0xF1]
  | .set6D => [0xCB, 0xF2]
  | .set6E => [0xCB, 0xF3]
  | .set6H => [0xCB, 0xF4]
  | .set6L => [0xCB, 0xF5]
  | .set6IndHl => [0xCB, 0xF6]
  | .set6A => [0xCB, 0xF7]
  | .set7B => [0xCB, 0xF8]
  | .set7C => [0xCB, 0xF9]
  | .set7D => [0xCB, 0xFA]
  | .set7E => [0xCB, 0xFB]
  | .set7H => [0xCB, 0xFC]
  | .set7L => [0xCB, 0xFD]
  | .set7IndHl => [0xCB, 0xFE]
  | .set7A => [0xCB, 0xFF]

/-! ## The opcode table's numbering -/

/-- The bytes the number `w` of `nbits` bits stands for, lowest address first, with every byte above `nbits` 0.
One-byte rows number the first byte. The two-byte rows are the extended ones, and spec/opcode_table.json numbers them with
the FIRST byte, 0xCB, in bits 15..8 ("match": "0xCB01"); a number whose bits 7..0 are 0xCB is read in the other order
(log entry 7). -/
def tableBytes (nbits w : Nat) : Byte × Byte × Byte :=
  let b0 := BitVec.ofNat 8 w
  let b1 := BitVec.ofNat 8 (w / 256)
  let b2 := BitVec.ofNat 8 (w / 65536)
  if nbits ≤ 8 then (b0, 0, 0)
  else if nbits ≤ 16 then (if b1 = 0xCB ∧ b0 ≠ 0xCB then (b1, b0, 0) else (b0, b1, 0))
  else (b0, b1, b2)

/-- The instruction of a row of spec/opcode_table.json. A row of one byte is a slot of the primary table (so 0xCB is the
slot PREFIX CB, with the second byte 0); a longer row is the instruction its bytes decode to (log entry 7). -/
def decodeTableWord (nbits w : Nat) : Option Instr :=
  let (op, b1, b2) := tableBytes nbits w
  if nbits ≤ 8 then some (decodePrimary op b1 b2) else some (decodeInstr op b1 b2)

end Sys2Proof
end

