-- ==== Sys2Proof/Machine/State.lean ====
section
/-! DEFINITION. The state of the machine (spec/10_state.md), why a step can stop (spec/60_exceptions.md R441), and the
state after reset (R48, R480 to R482). -/

namespace Sys2Proof.Machine

/-- A byte array as the list of its cells that differ from 0x00, by strictly rising index (`Memory.wf`).
A cell that is not listed holds 0x00 (log entry 1). -/
abbrev Memory := List Host.Cell

/-- The cartridge image (R45): IMAGE_SIZE bytes indexed from 0; `cells` lists the bytes that are not 0x00. -/
structure Image where
  size : Nat
  cells : Memory
deriving DecidableEq, Repr

/-- The banking scheme (R45, R101). -/
inductive Scheme where
  | noBanking
  | type1
deriving DecidableEq, Repr

/-- The type-1 controller's `mode` bit (R46, R112): 0 is `largeRom`, 16 Mbit ROM / 8 KiB RAM; 1 is `largeRam`,
4 Mbit ROM / 32 KiB RAM. -/
inductive BankMode where
  | largeRom
  | largeRam
deriving DecidableEq, Repr

/-- A loaded cartridge with its controller's registers (R45, R46). Under the no-banking scheme the bank registers keep
their after-load values and there is no external RAM. -/
structure Cart where
  image : Image
  scheme : Scheme
  romBank : BitVec 7
  ramBank : BitVec 2
  mode : BankMode
  ramEnable : Bool
  eram : Memory
deriving DecidableEq, Repr

/-- The whole machine: register file, cycle counter, bus storage and cartridge controller (spec/10_state.md). -/
structure State where
  /-- A (R30) -/
  a : Byte
  /-- F, the flags byte (R33) -/
  f : Byte
  /-- B (R30) -/
  b : Byte
  /-- C (R30) -/
  c : Byte
  /-- D (R30) -/
  d : Byte
  /-- E (R30) -/
  e : Byte
  /-- H (R30) -/
  h : Byte
  /-- L (R30) -/
  l : Byte
  /-- SP (R39) -/
  sp : Word
  /-- PC (R38) -/
  pc : Word
  /-- the cycle counter, in M-cycles (R37) -/
  cyc : Cycles
  /-- video RAM, working RAM, object memory and high RAM (R42), each byte under the bus address at which its region
  begins plus its index (R79, R81, R85, R87) -/
  ram : Memory
  /-- the interrupt-enable byte (R43) -/
  ie : Byte
  /-- the serial data latch (R44) -/
  sb : Byte
  /-- the bytes transmitted, oldest first (R44) -/
  serialOut : List Byte
  /-- the cartridge, if one is loaded (R45) -/
  cart : Option Cart
deriving DecidableEq, Repr

/-- Why a step has no successor: the model faults of R441, and `stuck`. -/
inductive Fault where
  /-- `NoCartridge` (R115): raised by the bus on any access to a cartridge window while no cartridge is loaded. Safe: the
  source gives the access no meaning, and a run that meets it proves nothing about the hardware. -/
  | noCartridge
  /-- `CartReadOutOfImage(i)` (R114): raised by a cartridge read of image offset `i` beyond the image, under
  `CART_OOB = fault`. Safe: as above. -/
  | cartReadOutOfImage (i : Nat)
  /-- `UndefinedOpcode(op)` (R375): raised by an undefined primary opcode under `UNDEF_POLICY = fault` only, which is not
  this hardware's value. Safe: the alternative goes on. -/
  | undefinedOpcode (op : Byte)
  /-- the stuck outcome (R371, R441): raised by HALT under `HALT_POLICY = stuck` only, which is not this hardware's value.
  Safe: the alternative goes on. -/
  | stuck
deriving DecidableEq, Repr

/-- Why an instruction has no meaning in the model. -/
inductive Refusal where
  /-- an arm of `exec` that has no meaning yet; no arm of this model is one. Safe. -/
  | notModelled (mnemonic : String)
deriving DecidableEq, Repr

/-- The machine after `init` (R48, R455, R480 to R482), whatever it held before: registers at the post-boot values, no
cartridge, the bus buffers holding `initMem`, the OPEN parameter `INIT_MEM`. `init` leaves no cartridge (R455, R482), so one
loaded before it is dropped; that the CPU initialization which R486 lets a load precede is a move of its own,
`State.cpuInit`, and keeps the cartridge is DEDUCED (log entry 11). -/
def State.init (initMem : Memory) : State where
  a := 0x01
  f := 0xB0
  b := 0x00
  c := 0x13
  d := 0x00
  e := 0xD8
  h := 0x01
  l := 0x4D
  sp := 0xFFFE
  pc := 0x0100
  cyc := 0
  ram := initMem
  ie := 0x00
  sb := 0x00
  serialOut := []
  cart := none

/-- The machine right after reset. DESIGN CHOICE (log entry 1): the bus buffers hold 0x00, one value of the OPEN
`INIT_MEM` (R482). -/
def State.reset : State := State.init []

end Sys2Proof.Machine
end

