-- ==== Sys2Proof/Machine/Flags.lean ====
section
/-! DEFINITION. The flags byte (R33, R34) and every result and flag computation: the 8-bit ALU (R251 to R257), 16-bit
addition (R290), the stack-relative adjust (R295), the rotates and shifts (R310 to R313, R391 to R406), DAA (R314). -/

namespace Sys2Proof.Machine

/-- The four flags (R33). -/
structure Flags where
  z : Bool
  n : Bool
  h : Bool
  c : Bool
deriving DecidableEq, Repr

/-- F with these flags: Z, N, H, C in bits 7 to 4, bits 3..0 zero (R33, R34; log entry 6). -/
def Flags.toByte (fl : Flags) : Byte :=
  (if fl.z then 0x80 else 0) ||| (if fl.n then 0x40 else 0) ||| (if fl.h then 0x20 else 0) ||| (if fl.c then 0x10 else 0)

/-- The flags an F byte holds (R33). -/
def Flags.ofByte (f : Byte) : Flags where
  z := f.getLsbD 7
  n := f.getLsbD 6
  h := f.getLsbD 5
  c := f.getLsbD 4

/-- A byte and the flags computed with it. -/
structure AluResult where
  res : Byte
  flags : Flags
deriving DecidableEq, Repr

/-! ## The 8-bit ALU (R251 to R257) -/

/-- `alu_add` (R251): on unbounded integers, narrowed at the end. -/
def aluAdd (a b : Byte) (cin : Bool) : AluResult :=
  let t := a.toNat + b.toNat + cin.toNat
  let res := BitVec.ofNat 8 t
  { res := res
    flags :=
      { z := res == 0
        n := false
        h := decide (a.toNat % 16 + b.toNat % 16 + cin.toNat > 0x0F)
        c := decide (t > 0xFF) } }

/-- `alu_sub` (R252). -/
def aluSub (a b : Byte) (cin : Bool) : AluResult :=
  let res := BitVec.ofInt 8 ((a.toNat : Int) - b.toNat - cin.toNat)
  { res := res
    flags :=
      { z := res == 0
        n := true
        h := decide (a.toNat % 16 < b.toNat % 16 + cin.toNat)
        c := decide (a.toNat < b.toNat + cin.toNat) } }

/-- `alu_and` (R253). -/
def aluAnd (a b : Byte) : AluResult :=
  let res := a &&& b
  { res := res, flags := { z := res == 0, n := false, h := true, c := false } }

/-- `alu_xor` (R254). -/
def aluXor (a b : Byte) : AluResult :=
  let res := a ^^^ b
  { res := res, flags := { z := res == 0, n := false, h := false, c := false } }

/-- `alu_or` (R255). -/
def aluOr (a b : Byte) : AluResult :=
  let res := a ||| b
  { res := res, flags := { z := res == 0, n := false, h := false, c := false } }

/-- The ALU operation `op` on A and a source byte with the carry flag `cf` (R250; ADD, SUB and CP take no carry-in,
R251, R252). -/
def aluOp (op : AluOp) (a b : Byte) (cf : Bool) : AluResult :=
  match op with
  | .add => aluAdd a b false
  | .adc => aluAdd a b cf
  | .sub => aluSub a b false
  | .sbc => aluSub a b cf
  | .and => aluAnd a b
  | .xor => aluXor a b
  | .or => aluOr a b
  | .cp => aluSub a b false

/-- Whether A takes the result: every ALU operation but CP (R250, R281). -/
def aluWritesA (op : AluOp) : Bool :=
  match op with
  | .cp => false
  | _ => true

/-- `alu_inc` (R256); C keeps its value `cf`. -/
def aluInc (v : Byte) (cf : Bool) : AluResult :=
  let res := v + 1
  { res := res, flags := { z := res == 0, n := false, h := decide (v.toNat % 16 = 0x0F), c := cf } }

/-- `alu_dec` (R257); C keeps its value `cf`. -/
def aluDec (v : Byte) (cf : Bool) : AluResult :=
  let res := v - 1
  { res := res, flags := { z := res == 0, n := true, h := decide (v.toNat % 16 = 0), c := cf } }

/-! ## 16-bit arithmetic (R290, R295) -/

/-- The sum of ADD HL,rr (R290). -/
def addHlSum (a b : Word) : Word := a + b

/-- The flags of ADD HL,rr (R290): Z keeps its value `zf`. -/
def addHlFlags (a b : Word) (zf : Bool) : Flags where
  z := zf
  n := false
  h := decide (a.toNat % 0x1000 + b.toNat % 0x1000 > 0x0FFF)
  c := decide (a.toNat + b.toNat > 0xFFFF)

/-- `sext_16(e)` (R9). -/
def sext16 (e : Byte) : Word := e.signExtend 16

/-- The address of `sp_adjust` (R295). -/
def spAdjustSum (sp : Word) (e : Byte) : Word := sp + sext16 e

/-- The flags of `sp_adjust` (R295): from the unsigned low-byte sum. -/
def spAdjustFlags (sp : Word) (e : Byte) : Flags where
  z := false
  n := false
  h := decide (sp.toNat % 16 + e.toNat % 16 > 0x0F)
  c := decide (sp.toNat % 256 + e.toNat > 0xFF)

/-! ## Rotates and shifts (R310 to R313, R391 to R406) -/

/-- The byte a rotate or shift of `v` gives; `cf` is the carry flag (R391 to R406). -/
def shiftByte (op : ShiftOp) (v : Byte) (cf : Bool) : Byte :=
  match op with
  | .rlc => (v <<< 1) ||| (if v.getLsbD 7 then 1 else 0)
  | .rrc => (v >>> 1) ||| (if v.getLsbD 0 then 0x80 else 0)
  | .rl => (v <<< 1) ||| (if cf then 1 else 0)
  | .rr => (v >>> 1) ||| (if cf then 0x80 else 0)
  | .sla => v <<< 1
  | .sra => (v >>> 1) ||| (v &&& 0x80)
  | .swap => ((v &&& 0x0F) <<< 4) ||| (v >>> 4)
  | .srl => v >>> 1

/-- The bit shifted out; 0 for SWAP (R403). -/
def shiftOut (op : ShiftOp) (v : Byte) : Bool :=
  match op with
  | .rlc => v.getLsbD 7
  | .rrc => v.getLsbD 0
  | .rl => v.getLsbD 7
  | .rr => v.getLsbD 0
  | .sla => v.getLsbD 7
  | .sra => v.getLsbD 0
  | .swap => false
  | .srl => v.getLsbD 0

/-- A CB shift or rotate: Z from the result, N = H = 0, C the bit shifted out (R391 to R406). -/
def shiftResult (op : ShiftOp) (v : Byte) (cf : Bool) : AluResult :=
  let res := shiftByte op v cf
  { res := res, flags := { z := res == 0, n := false, h := false, c := shiftOut op v } }

/-- The rotate an accumulator form performs (R310 to R313). -/
def accShiftOp (r : AccRotate) : ShiftOp :=
  match r with
  | .rlca => .rlc
  | .rrca => .rrc
  | .rla => .rl
  | .rra => .rr

/-- An accumulator rotate: as the CB rotate, but Z = 0 whatever the result (R310 to R313, C1). -/
def accRotateResult (r : AccRotate) (v : Byte) (cf : Bool) : AluResult where
  res := shiftByte (accShiftOp r) v cf
  flags := { z := false, n := false, h := false, c := shiftOut (accShiftOp r) v }

/-! ## Decimal adjust (R314) -/

/-- DAA after an addition, on an unbounded number (R314). -/
def daaAfterAdd (a : Nat) (hf cf : Bool) : Nat :=
  let a1 := if hf || decide (a % 16 > 0x09) then a + 0x06 else a
  if cf || decide (a1 > 0x9F) then a1 + 0x60 else a1

/-- DAA after a subtraction, on an unbounded integer (R314). -/
def daaAfterSub (a : Int) (hf cf : Bool) : Int :=
  let a1 := if hf then a - 0x06 else a
  if cf then a1 - 0x60 else a1

/-- DAA (R314, C6): N is kept, H = 0, C = prior C or overflow after an addition and kept after a subtraction. -/
def daaResult (a : Byte) (fl : Flags) : AluResult :=
  if fl.n then
    let res := BitVec.ofInt 8 (daaAfterSub a.toNat fl.h fl.c)
    { res := res, flags := { z := res == 0, n := true, h := false, c := fl.c } }
  else
    let t := daaAfterAdd a.toNat fl.h fl.c
    let res := BitVec.ofNat 8 t
    { res := res, flags := { z := res == 0, n := false, h := false, c := fl.c || decide (t > 0xFF) } }

/-! ## Bit operations (R420 to R425) -/

/-- `1 << b` for a bit number `b`. -/
def bitMask (n : BitVec 3) : Byte := (1 : Byte) <<< n.toNat

/-- The flags of BIT: Z the inverse of the bit, N = 0, H = 1, C keeps its value `cf` (R420). -/
def bitFlags (n : BitVec 3) (v : Byte) (cf : Bool) : Flags where
  z := !v.getLsbD n.toNat
  n := false
  h := true
  c := cf

/-- RES: the bit cleared (R422). -/
def resByte (n : BitVec 3) (v : Byte) : Byte := v &&& ~~~(bitMask n)

/-- SET: the bit set (R424). -/
def setByte (n : BitVec 3) (v : Byte) : Byte := v ||| bitMask n

end Sys2Proof.Machine
end

