-- ==== Sys2Proof/Machine/Ops.lean ====
section
/-! DEFINITION. The named operations over memory, cartridge, bus and registers (spec/20_memory.md, spec/10_state.md,
R10 to R12). Where an operation can fault it answers `Except Fault`; `reading` and `storing` run what follows it.

TAKING AN EXCEPTION: there is no such operation, because this hardware takes none: no exception, trap or interrupt exists,
nothing is saved and there is no vector table (R440, R442, R445). The one return, RETI, is RET (R340, R446). -/

namespace Sys2Proof.Machine

/-- What an instruction answers. -/
abbrev Result := Host.Outcome State Fault Refusal

/-! ## Byte arrays in canonical form -/

/-- The byte at index `k`; 0x00 where nothing is listed. -/
def Memory.get (m : Memory) (k : Nat) : Byte :=
  match m with
  | [] => 0
  | (i, v) :: rest => if i = k then v else Memory.get rest k

/-- Put `v` at index `k`, keeping the list sorted and free of 0x00. -/
def Memory.set (m : Memory) (k : Nat) (v : Byte) : Memory :=
  match m with
  | [] => if v = 0 then [] else [(k, v)]
  | (i, w) :: rest =>
    if k < i then (if v = 0 then (i, w) :: rest else (k, v) :: (i, w) :: rest)
    else if k = i then (if v = 0 then rest else (k, v) :: rest)
    else (i, w) :: Memory.set rest k v

/-- Indices rise strictly from `lo` on and no listed byte is 0x00. -/
def Memory.wfFrom (lo : Nat) (m : Memory) : Bool :=
  match m with
  | [] => true
  | (i, v) :: rest => decide (lo ≤ i) && v != 0 && Memory.wfFrom (i + 1) rest

/-- The canonical form. -/
def Memory.wf (m : Memory) : Bool := Memory.wfFrom 0 m

/-- Every listed index satisfies `p`. -/
def Memory.keysIn (p : Nat → Bool) (m : Memory) : Bool := m.all fun cell => p cell.1

/-- The list of bytes `bs` put at the indices from `k` on. -/
def Memory.setList (m : Memory) (k : Nat) (bs : List Byte) : Memory :=
  match bs with
  | [] => m
  | v :: rest => Memory.setList (Memory.set m k v) (k + 1) rest

/-! ## The cartridge controller (R100 to R117) -/

/-- The image `bytes` (R45, R483). -/
def Image.ofBytes (bytes : List Byte) : Image where
  size := bytes.length
  cells := Memory.setList [] 0 bytes

/-- Scheme selection from header byte 0x147 (R101). -/
def selectScheme (img : Image) : Scheme :=
  if 0x147 < img.size ∧ (img.cells.get 0x147 = 0x01 ∨ img.cells.get 0x147 = 0x02 ∨ img.cells.get 0x147 = 0x03) then .type1
  else .noBanking

/-- A cartridge just loaded: bank registers at their after-load values (R46, R483); `eramInit` is what external RAM holds,
the OPEN `INIT_MEM`, where the scheme has external RAM. -/
def Cart.ofImage (img : Image) (eramInit : Memory) : Cart where
  image := img
  scheme := selectScheme img
  romBank := 0x01
  ramBank := 0
  mode := .largeRom
  ramEnable := false
  eram := match selectScheme img with
    | .noBanking => []
    | .type1 => eramInit

/-- `ImageByte(i)` (R103, R114) under a `CART_OOB` policy; `cyc` is what the free byte of `draw` is applied to. -/
def imageByteUnder (policy : CartOob) (img : Image) (cyc : Cycles) (i : Nat) : Except Fault Byte :=
  if i < img.size then .ok (img.cells.get i)
  else
    match policy with
    | .fault => .error (.cartReadOutOfImage i)
    | .draw => .ok (Config.oobByte i cyc)

/-- `ImageByte(i)` on this hardware (R103, R114). -/
def imageByte (img : Image) (cyc : Cycles) (i : Nat) : Except Fault Byte := imageByteUnder Config.cartOob img cyc i

/-- The image offset the switchable window shows at `a` (R104, R108). -/
def Cart.switchOffset (ct : Cart) (a : Word) : Nat :=
  match ct.scheme with
  | .noBanking => a.toNat
  | .type1 => ct.romBank.toNat * 0x4000 + (a.toNat - 0x4000)

/-- The external RAM index the window shows at `a` (R113). -/
def Cart.eramIndex (ct : Cart) (a : Word) : Nat := ct.ramBank.toNat * 0x2000 + (a.toNat - 0xA000)

/-- `CartReadFixed` (R103, R107): always bank 0. -/
def Cart.readFixed (ct : Cart) (cyc : Cycles) (a : Word) : Except Fault Byte := imageByte ct.image cyc a.toNat

/-- `CartReadSwitch` (R104, R108). -/
def Cart.readSwitch (ct : Cart) (cyc : Cycles) (a : Word) : Except Fault Byte :=
  imageByte ct.image cyc (ct.switchOffset a)

/-- `CartReadRam` (R106, R113). -/
def Cart.readRam (ct : Cart) (a : Word) : Byte :=
  match ct.scheme with
  | .noBanking => 0x00
  | .type1 => ct.eram.get (ct.eramIndex a)

/-- Write to 0x0000-0x1FFF (R109). -/
def Cart.writeRamEnable (ct : Cart) (v : Byte) : Cart := { ct with ramEnable := v.extractLsb' 0 4 == 0xA }

/-- Write to 0x2000-0x3FFF (R110): the low five bits, 0 coerced to 1. -/
def Cart.writeRomBankLow (ct : Cart) (v : Byte) : Cart :=
  let low : BitVec 5 := if v.extractLsb' 0 5 = 0 then 1 else v.extractLsb' 0 5
  { ct with romBank := (ct.romBank &&& (0x60 : BitVec 7)) ||| low.setWidth 7 }

/-- Write to 0x4000-0x5FFF (R111). -/
def Cart.writeBankHigh (ct : Cart) (v : Byte) : Cart :=
  match ct.mode with
  | .largeRom => { ct with romBank := (ct.romBank &&& (0x1F : BitVec 7)) ||| ((v.extractLsb' 0 2).setWidth 7 <<< 5) }
  | .largeRam => { ct with ramBank := v.extractLsb' 0 2 }

/-- Write to 0x6000-0x7FFF (R112). -/
def Cart.writeMode (ct : Cart) (v : Byte) : Cart :=
  if v.getLsbD 0 then { ct with mode := .largeRam } else { ct with mode := .largeRom, ramBank := 0 }

/-- `CartWriteFixed` (R105, R109, R110). -/
def Cart.writeFixed (ct : Cart) (a : Word) (v : Byte) : Cart :=
  match ct.scheme with
  | .noBanking => ct
  | .type1 => if a.toNat < 0x2000 then ct.writeRamEnable v else ct.writeRomBankLow v

/-- `CartWriteSwitch` (R105, R111, R112). -/
def Cart.writeSwitch (ct : Cart) (a : Word) (v : Byte) : Cart :=
  match ct.scheme with
  | .noBanking => ct
  | .type1 => if a.toNat < 0x6000 then ct.writeBankHigh v else ct.writeMode v

/-- `CartWriteRam` (R106, R113). -/
def Cart.writeRam (ct : Cart) (a : Word) (v : Byte) : Cart :=
  match ct.scheme with
  | .noBanking => ct
  | .type1 => { ct with eram := ct.eram.set (ct.eramIndex a) v }

/-! ## The address decoder (R76) -/

/-- The handlers of the decoder (R76). -/
inductive Region where
  | romFixed
  | romSwitch
  | vram
  | extRam
  | wram
  | mirror
  | oam
  | unmapped
  | io
  | hram
  | ie
deriving DecidableEq, Repr

/-- `decode(a)` of R76: the top nibble, then for nibble F the second one, then bit 7 (R83). -/
def decodeAddr (a : Word) : Region :=
  match a.toNat / 0x1000 with
  | 0 => .romFixed
  | 1 => .romFixed
  | 2 => .romFixed
  | 3 => .romFixed
  | 4 => .romSwitch
  | 5 => .romSwitch
  | 6 => .romSwitch
  | 7 => .romSwitch
  | 8 => .vram
  | 9 => .vram
  | 10 => .extRam
  | 11 => .extRam
  | 12 => .wram
  | 13 => .wram
  | 14 => .mirror
  | _ =>
    match a.toNat / 0x100 % 16 with
    | 14 => if a.toNat ≤ 0xFE9F then .oam else .unmapped
    | 15 => if a.toNat = 0xFFFF then .ie else if a.getLsbD 7 then .hram else .io
    | _ => .mirror

/-- The three cartridge windows (R77, R78, R80). -/
def Region.isCart (r : Region) : Bool :=
  match r with
  | .romFixed => true
  | .romSwitch => true
  | .extRam => true
  | _ => false

/-- The index in `State.ram` of the byte a storage address decodes to: the address itself, less 0x2000 in the mirror
(R79, R81, R82, R85, R87). -/
def storageIndex (a : Word) : Nat :=
  match decodeAddr a with
  | .mirror => a.toNat - 0x2000
  | _ => a.toNat

/-- The indices `State.ram` may list: those of VRAM, WRAM, OAM and HRAM (R42). -/
def isStorageIndex (k : Nat) : Bool :=
  (decide (0x8000 ≤ k) && decide (k < 0xA000)) || (decide (0xC000 ≤ k) && decide (k < 0xE000)) ||
    (decide (0xFE00 ≤ k) && decide (k < 0xFEA0)) || (decide (0xFF80 ≤ k) && decide (k < 0xFFFF))

/-! ## The bus (R71 to R75) -/

/-- What the cartridge answers, or `NoCartridge` (R115). -/
def State.fromCart (s : State) (k : Cart → Except Fault Byte) : Except Fault Byte :=
  match s.cart with
  | none => .error .noCartridge
  | some ct => k ct

/-- `MemRead(a, 1)` (R71): through the decoder, changing nothing (R89). -/
def State.busRead (s : State) (a : Word) : Except Fault Byte :=
  match decodeAddr a with
  | .romFixed => s.fromCart fun ct => ct.readFixed s.cyc a
  | .romSwitch => s.fromCart fun ct => ct.readSwitch s.cyc a
  | .extRam => s.fromCart fun ct => .ok (ct.readRam a)
  | .vram => .ok (s.ram.get (storageIndex a))
  | .wram => .ok (s.ram.get (storageIndex a))
  | .mirror => .ok (s.ram.get (storageIndex a))
  | .oam => .ok (s.ram.get (storageIndex a))
  | .hram => .ok (s.ram.get (storageIndex a))
  | .ie => .ok s.ie
  | .io => .ok 0x00
  | .unmapped => .ok 0x00

/-- A write to the I/O registers (R84): the serial latch at 0xFF01 (R450), the transmit at 0xFF02 (R451), else discarded. -/
def State.ioWrite (s : State) (a : Word) (v : Byte) : State :=
  if a = 0xFF01 then { s with sb := v }
  else if a = 0xFF02 ∧ v = 0x81 then { s with serialOut := s.serialOut ++ [s.sb] }
  else s

/-- A byte stored in the bus buffers. -/
def State.setRam (s : State) (k : Nat) (v : Byte) : State := { s with ram := s.ram.set k v }

/-- A change of the cartridge's registers or RAM; nothing where no cartridge is loaded. -/
def State.mapCart (s : State) (k : Cart → Cart) : State := { s with cart := s.cart.map k }

/-- What delivering the byte `v` to the handler of address `a` makes of the state (R72, R77 to R88, R90). -/
def State.deliver (s : State) (a : Word) (v : Byte) : State :=
  match decodeAddr a with
  | .romFixed => s.mapCart fun ct => ct.writeFixed a v
  | .romSwitch => s.mapCart fun ct => ct.writeSwitch a v
  | .extRam => s.mapCart fun ct => ct.writeRam a v
  | .vram => s.setRam (storageIndex a) v
  | .wram => s.setRam (storageIndex a) v
  | .mirror => s.setRam (storageIndex a) v
  | .oam => s.setRam (storageIndex a) v
  | .hram => s.setRam (storageIndex a) v
  | .ie => { s with ie := v }
  | .io => s.ioWrite a v
  | .unmapped => s

/-- Whether an access to `a` finds a handler: all but a cartridge window with no cartridge loaded (R75, R115). -/
def State.windowOpen (s : State) (a : Word) : Bool := !(decodeAddr a).isCart || s.cart.isSome

/-- `MemWrite(a, 1, v)` (R72). -/
def State.busWrite (s : State) (a : Word) (v : Byte) : Except Fault State :=
  if s.windowOpen a then .ok (s.deliver a v) else .error .noCartridge

/-- `MemRead(a, 2)` (R73): low byte first, the second address wraps. -/
def State.busRead16 (s : State) (a : Word) : Except Fault Word :=
  match s.busRead a with
  | .error r => .error r
  | .ok lo =>
    match s.busRead (a + 1) with
    | .error r => .error r
    | .ok hi => .ok (join hi lo)

/-- `MemWrite(a, 2, v)` (R74): low byte first, the second address wraps. -/
def State.busWrite16 (s : State) (a : Word) (v : Word) : Except Fault State :=
  match s.busWrite a (loByte v) with
  | .error r => .error r
  | .ok s1 => s1.busWrite (a + 1) (hiByte v)

/-- Run `k` on a byte or word that was read; a fault ends the step (R444). -/
def reading {α : Type} (x : Except Fault α) (k : α → Result) : Result :=
  match x with
  | .ok v => k v
  | .error r => .fault r

/-- Run `k` on the state a write leaves; a fault ends the step with none of its effects (R441, R444). -/
def storing (x : Except Fault State) (k : State → Result) : Result :=
  match x with
  | .ok s => k s
  | .error r => .fault r

/-! ## Registers (R10, R30 to R32) -/

/-- `x[r]`. -/
def State.reg (s : State) (r : Reg8) : Byte :=
  match r with
  | .b => s.b
  | .c => s.c
  | .d => s.d
  | .e => s.e
  | .h => s.h
  | .l => s.l
  | .a => s.a

/-- `x[r] <- v`: only that byte (R32). -/
def State.setReg (s : State) (r : Reg8) (v : Byte) : State :=
  match r with
  | .b => { s with b := v }
  | .c => { s with c := v }
  | .d => { s with d := v }
  | .e => { s with e := v }
  | .h => { s with h := v }
  | .l => { s with l := v }
  | .a => { s with a := v }

/-- `x[BC]` (R31). -/
def State.bc (s : State) : Word := join s.b s.c

/-- `x[DE]` (R31). -/
def State.de (s : State) : Word := join s.d s.e

/-- `x[HL]` (R31). -/
def State.hl (s : State) : Word := join s.h s.l

/-- `x[AF]` (R31). -/
def State.af (s : State) : Word := join s.a s.f

/-- `x[BC] <- v` (R32). -/
def State.setBc (s : State) (v : Word) : State := { s with b := hiByte v, c := loByte v }

/-- `x[DE] <- v` (R32). -/
def State.setDe (s : State) (v : Word) : State := { s with d := hiByte v, e := loByte v }

/-- `x[HL] <- v` (R32). -/
def State.setHl (s : State) (v : Word) : State := { s with h := hiByte v, l := loByte v }

/-- `x[AF] <- v`: F takes `v[7:4] ++ 0b0000` (R32, R34, D11). -/
def State.setAf (s : State) (v : Word) : State := { s with a := hiByte v, f := loByte v &&& 0xF0 }

/-- `x[SP] <- v` (R39). -/
def State.setSp (s : State) (v : Word) : State := { s with sp := v }

/-- `x[rr]` (R158). -/
def State.pair (s : State) (rr : Pair) : Word :=
  match rr with
  | .bc => s.bc
  | .de => s.de
  | .hl => s.hl
  | .sp => s.sp

/-- `x[rr] <- v` (R158). -/
def State.setPair (s : State) (rr : Pair) (v : Word) : State :=
  match rr with
  | .bc => s.setBc v
  | .de => s.setDe v
  | .hl => s.setHl v
  | .sp => s.setSp v

/-- `x[qq]` (R159). -/
def State.stackPair (s : State) (qq : StackPair) : Word :=
  match qq with
  | .bc => s.bc
  | .de => s.de
  | .hl => s.hl
  | .af => s.af

/-- `x[qq] <- v` (R159, R223). -/
def State.setStackPair (s : State) (qq : StackPair) (v : Word) : State :=
  match qq with
  | .bc => s.setBc v
  | .de => s.setDe v
  | .hl => s.setHl v
  | .af => s.setAf v

/-- The flags (R33). -/
def State.flags (s : State) : Flags := Flags.ofByte s.f

/-- Write all four flags (R33, R34). -/
def State.setFlags (s : State) (fl : Flags) : State := { s with f := fl.toByte }

/-- `cond(cc)` (R330). -/
def State.cond (s : State) (cc : Cond) : Bool :=
  match cc with
  | .nz => !s.flags.z
  | .z => s.flags.z
  | .nc => !s.flags.c
  | .c => s.flags.c

/-! ## The end of an instruction (R38, R150, R491) -/

/-- PC past the instruction's `len` bytes, its duration of `m` M-cycles charged (R38, R491). -/
def State.retire (s : State) (len : Word) (m : Cycles) : State := { s with pc := s.pc + len, cyc := s.cyc + m }

/-- PC at a transfer's target, `m` M-cycles charged. -/
def State.goto (s : State) (target : Word) (m : Cycles) : State := { s with pc := target, cyc := s.cyc + m }

/-- A conditional transfer's duration (R330, R490) under a `BRANCH_TIMING` policy. -/
def condCyclesUnder (policy : BranchTiming) (holds : Bool) (taken notTaken : Cycles) : Cycles :=
  match policy with
  | .hardware => if holds then taken else notTaken
  | .single => taken

/-- A conditional transfer's duration on this hardware. -/
def condCycles (holds : Bool) (taken notTaken : Cycles) : Cycles :=
  condCyclesUnder Config.branchTiming holds taken notTaken

/-! ## The stack (R12, R39, R222, R223) -/

/-- `Push16(v)` (R12): SP less 2, then the two bytes, low byte first. -/
def State.push16 (s : State) (v : Word) : Except Fault State := (s.setSp (s.sp - 2)).busWrite16 (s.sp - 2) v

/-- `Pop16()` (R12): the word at SP; SP is raised by the caller with `setSp (s.sp + 2)`. -/
def State.pop16 (s : State) : Except Fault Word := s.busRead16 s.sp

end Sys2Proof.Machine
end

