-- ==== Sys2Proof/Machine/Operands.lean ====
section
/-! DEFINITION. The operand forms: the 8-bit operand field (R157, R250, R390) and the memory operands of
spec/40_loads.md's addressing modes (R162). -/

namespace Sys2Proof.Machine

/-- The operand field's value: a register, or the byte at HL (R250, R390). -/
def State.readOperand (s : State) (o : Operand8) : Except Fault Byte :=
  match o with
  | .reg r => .ok (s.reg r)
  | .indHl => s.busRead s.hl

/-- Write through the operand field: a register, or the byte at HL (R390). -/
def State.writeOperand (s : State) (o : Operand8) (v : Byte) : Except Fault State :=
  match o with
  | .reg r => .ok (s.setReg r v)
  | .indHl => s.busWrite s.hl v

/-- The duration of an instruction by its operand field: `m` with a register, `mHl` with (HL) (R490). -/
def operandCycles (o : Operand8) (m mHl : Cycles) : Cycles :=
  match o with
  | .reg _ => m
  | .indHl => mHl

/-- `0xFF00 + off`: the high page (R162, R211 to R214). -/
def highPage (off : Byte) : Word := join 0xFF off

end Sys2Proof.Machine
end

