-- ==== Sys2Proof/Machine/AccumMisc.lean ====
section
/-! DEFINITION. Accumulator rotates, decimal adjust and flag operations: spec/43_accum_misc.md R310 to R317. -/

namespace Sys2Proof.Machine

/-! ## The shared forms -/

/-- RLCA, RRCA, RLA, RRA (R310 to R313). -/
def accRotate (k : AccRotate) (s : State) : Result :=
  let r := accRotateResult k s.a s.flags.c
  .next (((s.setReg .a r.res).setFlags r.flags).retire 1 1)

/-- DAA (R314). -/
def decimalAdjust (s : State) : Result :=
  let r := daaResult s.a s.flags
  .next (((s.setReg .a r.res).setFlags r.flags).retire 1 1)

/-- CPL (R315). -/
def complementA (s : State) : Result :=
  .next (((s.setReg .a (~~~s.a)).setFlags { s.flags with n := true, h := true }).retire 1 1)

/-- SCF (R316). -/
def setCarry (s : State) : Result :=
  .next ((s.setFlags { s.flags with n := false, h := false, c := true }).retire 1 1)

/-- CCF (R317). -/
def complementCarry (s : State) : Result :=
  .next ((s.setFlags { s.flags with n := false, h := false, c := !s.flags.c }).retire 1 1)

/-! ## The instructions -/

/-- RLCA, 0x07 (R310). -/
def execRlca (s : State) : Result := accRotate .rlca s

/-- RRCA, 0x0F (R311). -/
def execRrca (s : State) : Result := accRotate .rrca s

/-- RLA, 0x17 (R312). -/
def execRla (s : State) : Result := accRotate .rla s

/-- RRA, 0x1F (R313). -/
def execRra (s : State) : Result := accRotate .rra s

/-- DAA, 0x27 (R314). -/
def execDaa (s : State) : Result := decimalAdjust s

/-- CPL, 0x2F (R315). -/
def execCpl (s : State) : Result := complementA s

/-- SCF, 0x37 (R316). -/
def execScf (s : State) : Result := setCarry s

/-- CCF, 0x3F (R317). -/
def execCcf (s : State) : Result := complementCarry s

end Sys2Proof.Machine
end

