-- ==== Sys2Proof/Machine/Alu16.lean ====
section
/-! DEFINITION. 16-bit arithmetic and the stack-relative adjust: spec/42_alu16.md R290 to R295. -/

namespace Sys2Proof.Machine

/-! ## The shared forms -/

/-- ADD HL,rr (R290). -/
def addHlPair (rr : Pair) (s : State) : Result :=
  .next (((s.setHl (addHlSum s.hl (s.pair rr))).setFlags (addHlFlags s.hl (s.pair rr) s.flags.z)).retire 1 2)

/-- INC rr and DEC rr: the pair moved by `step`, no flag written (R291, R292). -/
def addToPair (rr : Pair) (step : Word) (s : State) : Result := .next ((s.setPair rr (s.pair rr + step)).retire 1 2)

/-- ADD SP,e8 (R293, R295). -/
def adjustSp (e8 : Byte) (s : State) : Result :=
  .next (((s.setSp (spAdjustSum s.sp e8)).setFlags (spAdjustFlags s.sp e8)).retire 2 4)

/-- LD HL,SP+e8 (R294, R295). -/
def ldHlAdjusted (e8 : Byte) (s : State) : Result :=
  .next (((s.setHl (spAdjustSum s.sp e8)).setFlags (spAdjustFlags s.sp e8)).retire 2 3)

/-! ## The instructions -/

/-- INC BC, 0x03 (R291). -/
def execIncBc (s : State) : Result := addToPair .bc 1 s

/-- ADD HL,BC, 0x09 (R290). -/
def execAddHlBc (s : State) : Result := addHlPair .bc s

/-- DEC BC, 0x0B (R292). -/
def execDecBc (s : State) : Result := addToPair .bc (-1) s

/-- INC DE, 0x13 (R291). -/
def execIncDe (s : State) : Result := addToPair .de 1 s

/-- ADD HL,DE, 0x19 (R290). -/
def execAddHlDe (s : State) : Result := addHlPair .de s

/-- DEC DE, 0x1B (R292). -/
def execDecDe (s : State) : Result := addToPair .de (-1) s

/-- INC HL, 0x23 (R291). -/
def execIncHl (s : State) : Result := addToPair .hl 1 s

/-- ADD HL,HL, 0x29 (R290). -/
def execAddHlHl (s : State) : Result := addHlPair .hl s

/-- DEC HL, 0x2B (R292). -/
def execDecHl (s : State) : Result := addToPair .hl (-1) s

/-- INC SP, 0x33 (R291). -/
def execIncSp (s : State) : Result := addToPair .sp 1 s

/-- ADD HL,SP, 0x39 (R290). -/
def execAddHlSp (s : State) : Result := addHlPair .sp s

/-- DEC SP, 0x3B (R292). -/
def execDecSp (s : State) : Result := addToPair .sp (-1) s

/-- ADD SP,e8, 0xE8 (R293). -/
def execAddSpE8 (e8 : Byte) (s : State) : Result := adjustSp e8 s

/-- LD HL,SP+e8, 0xF8 (R294). -/
def execLdHlSpE8 (e8 : Byte) (s : State) : Result := ldHlAdjusted e8 s

end Sys2Proof.Machine
end

