-- ==== Sys2Proof/Machine/Alu8.lean ====
section
/-! DEFINITION. 8-bit arithmetic and logic: spec/41_alu8.md R260 to R287. -/

namespace Sys2Proof.Machine

/-! ## The shared forms -/

/-- A takes the result, but for CP, and F the flags (R250). -/
def State.applyAlu (s : State) (op : AluOp) (v : Byte) : State :=
  let r := aluOp op s.a v s.flags.c
  if aluWritesA op then (s.setReg .a r.res).setFlags r.flags else s.setFlags r.flags

/-- An ALU instruction with a register or (HL) source (R260 to R282). -/
def aluOperand (op : AluOp) (o : Operand8) (s : State) : Result :=
  reading (s.readOperand o) fun v => .next ((s.applyAlu op v).retire 1 (operandCycles o 1 2))

/-- An ALU instruction with an immediate source (R262 to R283). -/
def aluImm (op : AluOp) (d8 : Byte) (s : State) : Result := .next ((s.applyAlu op d8).retire 2 2)

/-- INC r and INC (HL) (R284, R285): read, write, then the flags. -/
def incOperand (o : Operand8) (s : State) : Result :=
  reading (s.readOperand o) fun v =>
    let r := aluInc v s.flags.c
    storing (s.writeOperand o r.res) fun t => .next ((t.setFlags r.flags).retire 1 (operandCycles o 1 3))

/-- DEC r and DEC (HL) (R286, R287). -/
def decOperand (o : Operand8) (s : State) : Result :=
  reading (s.readOperand o) fun v =>
    let r := aluDec v s.flags.c
    storing (s.writeOperand o r.res) fun t => .next ((t.setFlags r.flags).retire 1 (operandCycles o 1 3))

/-! ## The instructions -/

/-- INC B, 0x04 (R284). -/
def execIncB (s : State) : Result := incOperand (.reg .b) s

/-- DEC B, 0x05 (R286). -/
def execDecB (s : State) : Result := decOperand (.reg .b) s

/-- INC C, 0x0C (R284). -/
def execIncC (s : State) : Result := incOperand (.reg .c) s

/-- DEC C, 0x0D (R286). -/
def execDecC (s : State) : Result := decOperand (.reg .c) s

/-- INC D, 0x14 (R284). -/
def execIncD (s : State) : Result := incOperand (.reg .d) s

/-- DEC D, 0x15 (R286). -/
def execDecD (s : State) : Result := decOperand (.reg .d) s

/-- INC E, 0x1C (R284). -/
def execIncE (s : State) : Result := incOperand (.reg .e) s

/-- DEC E, 0x1D (R286). -/
def execDecE (s : State) : Result := decOperand (.reg .e) s

/-- INC H, 0x24 (R284). -/
def execIncH (s : State) : Result := incOperand (.reg .h) s

/-- DEC H, 0x25 (R286). -/
def execDecH (s : State) : Result := decOperand (.reg .h) s

/-- INC L, 0x2C (R284). -/
def execIncL (s : State) : Result := incOperand (.reg .l) s

/-- DEC L, 0x2D (R286). -/
def execDecL (s : State) : Result := decOperand (.reg .l) s

/-- INC (HL), 0x34 (R285). -/
def execIncIndHl (s : State) : Result := incOperand .indHl s

/-- DEC (HL), 0x35 (R287). -/
def execDecIndHl (s : State) : Result := decOperand .indHl s

/-- INC A, 0x3C (R284). -/
def execIncA (s : State) : Result := incOperand (.reg .a) s

/-- DEC A, 0x3D (R286). -/
def execDecA (s : State) : Result := decOperand (.reg .a) s

/-- ADD A,B, 0x80 (R260). -/
def execAddAB (s : State) : Result := aluOperand .add (.reg .b) s

/-- ADD A,C, 0x81 (R260). -/
def execAddAC (s : State) : Result := aluOperand .add (.reg .c) s

/-- ADD A,D, 0x82 (R260). -/
def execAddAD (s : State) : Result := aluOperand .add (.reg .d) s

/-- ADD A,E, 0x83 (R260). -/
def execAddAE (s : State) : Result := aluOperand .add (.reg .e) s

/-- ADD A,H, 0x84 (R260). -/
def execAddAH (s : State) : Result := aluOperand .add (.reg .h) s

/-- ADD A,L, 0x85 (R260). -/
def execAddAL (s : State) : Result := aluOperand .add (.reg .l) s

/-- ADD A,(HL), 0x86 (R261). -/
def execAddAIndHl (s : State) : Result := aluOperand .add .indHl s

/-- ADD A,A, 0x87 (R260). -/
def execAddAA (s : State) : Result := aluOperand .add (.reg .a) s

/-- ADC A,B, 0x88 (R263). -/
def execAdcAB (s : State) : Result := aluOperand .adc (.reg .b) s

/-- ADC A,C, 0x89 (R263). -/
def execAdcAC (s : State) : Result := aluOperand .adc (.reg .c) s

/-- ADC A,D, 0x8A (R263). -/
def execAdcAD (s : State) : Result := aluOperand .adc (.reg .d) s

/-- ADC A,E, 0x8B (R263). -/
def execAdcAE (s : State) : Result := aluOperand .adc (.reg .e) s

/-- ADC A,H, 0x8C (R263). -/
def execAdcAH (s : State) : Result := aluOperand .adc (.reg .h) s

/-- ADC A,L, 0x8D (R263). -/
def execAdcAL (s : State) : Result := aluOperand .adc (.reg .l) s

/-- ADC A,(HL), 0x8E (R264). -/
def execAdcAIndHl (s : State) : Result := aluOperand .adc .indHl s

/-- ADC A,A, 0x8F (R263). -/
def execAdcAA (s : State) : Result := aluOperand .adc (.reg .a) s

/-- SUB B, 0x90 (R266). -/
def execSubB (s : State) : Result := aluOperand .sub (.reg .b) s

/-- SUB C, 0x91 (R266). -/
def execSubC (s : State) : Result := aluOperand .sub (.reg .c) s

/-- SUB D, 0x92 (R266). -/
def execSubD (s : State) : Result := aluOperand .sub (.reg .d) s

/-- SUB E, 0x93 (R266). -/
def execSubE (s : State) : Result := aluOperand .sub (.reg .e) s

/-- SUB H, 0x94 (R266). -/
def execSubH (s : State) : Result := aluOperand .sub (.reg .h) s

/-- SUB L, 0x95 (R266). -/
def execSubL (s : State) : Result := aluOperand .sub (.reg .l) s

/-- SUB (HL), 0x96 (R267). -/
def execSubIndHl (s : State) : Result := aluOperand .sub .indHl s

/-- SUB A, 0x97 (R266). -/
def execSubA (s : State) : Result := aluOperand .sub (.reg .a) s

/-- SBC A,B, 0x98 (R269). -/
def execSbcAB (s : State) : Result := aluOperand .sbc (.reg .b) s

/-- SBC A,C, 0x99 (R269). -/
def execSbcAC (s : State) : Result := aluOperand .sbc (.reg .c) s

/-- SBC A,D, 0x9A (R269). -/
def execSbcAD (s : State) : Result := aluOperand .sbc (.reg .d) s

/-- SBC A,E, 0x9B (R269). -/
def execSbcAE (s : State) : Result := aluOperand .sbc (.reg .e) s

/-- SBC A,H, 0x9C (R269). -/
def execSbcAH (s : State) : Result := aluOperand .sbc (.reg .h) s

/-- SBC A,L, 0x9D (R269). -/
def execSbcAL (s : State) : Result := aluOperand .sbc (.reg .l) s

/-- SBC A,(HL), 0x9E (R270). -/
def execSbcAIndHl (s : State) : Result := aluOperand .sbc .indHl s

/-- SBC A,A, 0x9F (R269). -/
def execSbcAA (s : State) : Result := aluOperand .sbc (.reg .a) s

/-- AND B, 0xA0 (R272). -/
def execAndB (s : State) : Result := aluOperand .and (.reg .b) s

/-- AND C, 0xA1 (R272). -/
def execAndC (s : State) : Result := aluOperand .and (.reg .c) s

/-- AND D, 0xA2 (R272). -/
def execAndD (s : State) : Result := aluOperand .and (.reg .d) s

/-- AND E, 0xA3 (R272). -/
def execAndE (s : State) : Result := aluOperand .and (.reg .e) s

/-- AND H, 0xA4 (R272). -/
def execAndH (s : State) : Result := aluOperand .and (.reg .h) s

/-- AND L, 0xA5 (R272). -/
def execAndL (s : State) : Result := aluOperand .and (.reg .l) s

/-- AND (HL), 0xA6 (R273). -/
def execAndIndHl (s : State) : Result := aluOperand .and .indHl s

/-- AND A, 0xA7 (R272). -/
def execAndA (s : State) : Result := aluOperand .and (.reg .a) s

/-- XOR B, 0xA8 (R275). -/
def execXorB (s : State) : Result := aluOperand .xor (.reg .b) s

/-- XOR C, 0xA9 (R275). -/
def execXorC (s : State) : Result := aluOperand .xor (.reg .c) s

/-- XOR D, 0xAA (R275). -/
def execXorD (s : State) : Result := aluOperand .xor (.reg .d) s

/-- XOR E, 0xAB (R275). -/
def execXorE (s : State) : Result := aluOperand .xor (.reg .e) s

/-- XOR H, 0xAC (R275). -/
def execXorH (s : State) : Result := aluOperand .xor (.reg .h) s

/-- XOR L, 0xAD (R275). -/
def execXorL (s : State) : Result := aluOperand .xor (.reg .l) s

/-- XOR (HL), 0xAE (R276). -/
def execXorIndHl (s : State) : Result := aluOperand .xor .indHl s

/-- XOR A, 0xAF (R275). -/
def execXorA (s : State) : Result := aluOperand .xor (.reg .a) s

/-- OR B, 0xB0 (R278). -/
def execOrB (s : State) : Result := aluOperand .or (.reg .b) s

/-- OR C, 0xB1 (R278). -/
def execOrC (s : State) : Result := aluOperand .or (.reg .c) s

/-- OR D, 0xB2 (R278). -/
def execOrD (s : State) : Result := aluOperand .or (.reg .d) s

/-- OR E, 0xB3 (R278). -/
def execOrE (s : State) : Result := aluOperand .or (.reg .e) s

/-- OR H, 0xB4 (R278). -/
def execOrH (s : State) : Result := aluOperand .or (.reg .h) s

/-- OR L, 0xB5 (R278). -/
def execOrL (s : State) : Result := aluOperand .or (.reg .l) s

/-- OR (HL), 0xB6 (R279). -/
def execOrIndHl (s : State) : Result := aluOperand .or .indHl s

/-- OR A, 0xB7 (R278). -/
def execOrA (s : State) : Result := aluOperand .or (.reg .a) s

/-- CP B, 0xB8 (R281). -/
def execCpB (s : State) : Result := aluOperand .cp (.reg .b) s

/-- CP C, 0xB9 (R281). -/
def execCpC (s : State) : Result := aluOperand .cp (.reg .c) s

/-- CP D, 0xBA (R281). -/
def execCpD (s : State) : Result := aluOperand .cp (.reg .d) s

/-- CP E, 0xBB (R281). -/
def execCpE (s : State) : Result := aluOperand .cp (.reg .e) s

/-- CP H, 0xBC (R281). -/
def execCpH (s : State) : Result := aluOperand .cp (.reg .h) s

/-- CP L, 0xBD (R281). -/
def execCpL (s : State) : Result := aluOperand .cp (.reg .l) s

/-- CP (HL), 0xBE (R282). -/
def execCpIndHl (s : State) : Result := aluOperand .cp .indHl s

/-- CP A, 0xBF (R281). -/
def execCpA (s : State) : Result := aluOperand .cp (.reg .a) s

/-- ADD A,d8, 0xC6 (R262). -/
def execAddAD8 (d8 : Byte) (s : State) : Result := aluImm .add d8 s

/-- ADC A,d8, 0xCE (R265). -/
def execAdcAD8 (d8 : Byte) (s : State) : Result := aluImm .adc d8 s

/-- SUB d8, 0xD6 (R268). -/
def execSubD8 (d8 : Byte) (s : State) : Result := aluImm .sub d8 s

/-- SBC A,d8, 0xDE (R271). -/
def execSbcAD8 (d8 : Byte) (s : State) : Result := aluImm .sbc d8 s

/-- AND d8, 0xE6 (R274). -/
def execAndD8 (d8 : Byte) (s : State) : Result := aluImm .and d8 s

/-- XOR d8, 0xEE (R277). -/
def execXorD8 (d8 : Byte) (s : State) : Result := aluImm .xor d8 s

/-- OR d8, 0xF6 (R280). -/
def execOrD8 (d8 : Byte) (s : State) : Result := aluImm .or d8 s

/-- CP d8, 0xFE (R283). -/
def execCpD8 (d8 : Byte) (s : State) : Result := aluImm .cp d8 s

end Sys2Proof.Machine
end

