-- ==== Sys2Proof/Machine/Control.lean ====
section
/-! DEFINITION. Control transfer: spec/44_control.md R330 to R341. PC counts as past the instruction's own bytes. -/

namespace Sys2Proof.Machine

/-! ## The shared forms -/

/-- JP a16 (R331). -/
def jumpAbs (a16 : Word) (s : State) : Result := .next (s.goto a16 4)

/-- JP cc,a16 (R332). -/
def jumpAbsCc (cc : Cond) (a16 : Word) (s : State) : Result :=
  let m := condCycles (s.cond cc) 4 3
  if s.cond cc then .next (s.goto a16 m) else .next (s.retire 3 m)

/-- JP HL (R333). -/
def jumpHl (s : State) : Result := .next (s.goto s.hl 1)

/-- JR e8 (R334): counted from the next instruction. -/
def jumpRel (e8 : Byte) (s : State) : Result := .next (s.goto (s.pc + 2 + sext16 e8) 3)

/-- JR cc,e8 (R335). -/
def jumpRelCc (cc : Cond) (e8 : Byte) (s : State) : Result :=
  let m := condCycles (s.cond cc) 3 2
  if s.cond cc then .next (s.goto (s.pc + 2 + sext16 e8) m) else .next (s.retire 2 m)

/-- Push the address after the instruction's `len` bytes and go to `target` (R336, R337, R341). -/
def callTo (target : Word) (len : Word) (m : Cycles) (s : State) : Result :=
  storing (s.push16 (s.pc + len)) fun t => .next (t.goto target m)

/-- CALL a16 (R336). -/
def callAbs (a16 : Word) (s : State) : Result := callTo a16 3 6 s

/-- CALL cc,a16 (R337). -/
def callAbsCc (cc : Cond) (a16 : Word) (s : State) : Result :=
  let m := condCycles (s.cond cc) 6 3
  if s.cond cc then callTo a16 3 m s else .next (s.retire 3 m)

/-- Pop PC (R338, R339, R340). -/
def returnTo (m : Cycles) (s : State) : Result :=
  reading s.pop16 fun v => .next ((s.setSp (s.sp + 2)).goto v m)

/-- RET, and RETI, whose re-enabling of interrupts has nothing to act on (R338, R340, C9). -/
def returnFrom (s : State) : Result := returnTo 4 s

/-- RET cc (R339). -/
def returnCc (cc : Cond) (s : State) : Result :=
  let m := condCycles (s.cond cc) 5 2
  if s.cond cc then returnTo m s else .next (s.retire 1 m)

/-- RST t (R341). -/
def restart (t : Word) (s : State) : Result := callTo t 1 4 s

/-! ## The instructions -/

/-- JR e8, 0x18 (R334). -/
def execJrE8 (e8 : Byte) (s : State) : Result := jumpRel e8 s

/-- JR NZ,e8, 0x20 (R335). -/
def execJrNzE8 (e8 : Byte) (s : State) : Result := jumpRelCc .nz e8 s

/-- JR Z,e8, 0x28 (R335). -/
def execJrZE8 (e8 : Byte) (s : State) : Result := jumpRelCc .z e8 s

/-- JR NC,e8, 0x30 (R335). -/
def execJrNcE8 (e8 : Byte) (s : State) : Result := jumpRelCc .nc e8 s

/-- JR C,e8, 0x38 (R335). -/
def execJrCE8 (e8 : Byte) (s : State) : Result := jumpRelCc .c e8 s

/-- RET NZ, 0xC0 (R339). -/
def execRetNz (s : State) : Result := returnCc .nz s

/-- JP NZ,a16, 0xC2 (R332). -/
def execJpNzA16 (a16 : Word) (s : State) : Result := jumpAbsCc .nz a16 s

/-- JP a16, 0xC3 (R331). -/
def execJpA16 (a16 : Word) (s : State) : Result := jumpAbs a16 s

/-- CALL NZ,a16, 0xC4 (R337). -/
def execCallNzA16 (a16 : Word) (s : State) : Result := callAbsCc .nz a16 s

/-- RST 0x00, 0xC7 (R341). -/
def execRst00 (s : State) : Result := restart 0x00 s

/-- RET Z, 0xC8 (R339). -/
def execRetZ (s : State) : Result := returnCc .z s

/-- RET, 0xC9 (R338). -/
def execRet (s : State) : Result := returnFrom s

/-- JP Z,a16, 0xCA (R332). -/
def execJpZA16 (a16 : Word) (s : State) : Result := jumpAbsCc .z a16 s

/-- CALL Z,a16, 0xCC (R337). -/
def execCallZA16 (a16 : Word) (s : State) : Result := callAbsCc .z a16 s

/-- CALL a16, 0xCD (R336). -/
def execCallA16 (a16 : Word) (s : State) : Result := callAbs a16 s

/-- RST 0x08, 0xCF (R341). -/
def execRst08 (s : State) : Result := restart 0x08 s

/-- RET NC, 0xD0 (R339). -/
def execRetNc (s : State) : Result := returnCc .nc s

/-- JP NC,a16, 0xD2 (R332). -/
def execJpNcA16 (a16 : Word) (s : State) : Result := jumpAbsCc .nc a16 s

/-- CALL NC,a16, 0xD4 (R337). -/
def execCallNcA16 (a16 : Word) (s : State) : Result := callAbsCc .nc a16 s

/-- RST 0x10, 0xD7 (R341). -/
def execRst10 (s : State) : Result := restart 0x10 s

/-- RET C, 0xD8 (R339). -/
def execRetC (s : State) : Result := returnCc .c s

/-- RETI, 0xD9 (R340). -/
def execReti (s : State) : Result := returnFrom s

/-- JP C,a16, 0xDA (R332). -/
def execJpCA16 (a16 : Word) (s : State) : Result := jumpAbsCc .c a16 s

/-- CALL C,a16, 0xDC (R337). -/
def execCallCA16 (a16 : Word) (s : State) : Result := callAbsCc .c a16 s

/-- RST 0x18, 0xDF (R341). -/
def execRst18 (s : State) : Result := restart 0x18 s

/-- RST 0x20, 0xE7 (R341). -/
def execRst20 (s : State) : Result := restart 0x20 s

/-- JP HL, 0xE9 (R333). -/
def execJpHl (s : State) : Result := jumpHl s

/-- RST 0x28, 0xEF (R341). -/
def execRst28 (s : State) : Result := restart 0x28 s

/-- RST 0x30, 0xF7 (R341). -/
def execRst30 (s : State) : Result := restart 0x30 s

/-- RST 0x38, 0xFF (R341). -/
def execRst38 (s : State) : Result := restart 0x38 s

end Sys2Proof.Machine
end

