-- ==== Sys2Proof/Machine/Loads.lean ====
section
/-! DEFINITION. Register transfer, loads, stores and the stack: spec/40_loads.md R200 to R223. No flag is written but by
POP AF. -/

namespace Sys2Proof.Machine

/-! ## The shared forms -/

/-- LD r,r' (R200). -/
def ldRegReg (dst src : Reg8) (s : State) : Result := .next ((s.setReg dst (s.reg src)).retire 1 1)

/-- LD r,d8 (R203). -/
def ldRegImm (dst : Reg8) (d8 : Byte) (s : State) : Result := .next ((s.setReg dst d8).retire 2 2)

/-- A register loaded from memory at `a` by an instruction of `len` bytes and `m` M-cycles (R201, R205, R206, R209, R211,
R213). -/
def ldRegFrom (dst : Reg8) (a : Word) (len : Word) (m : Cycles) (s : State) : Result :=
  reading (s.busRead a) fun v => .next ((s.setReg dst v).retire len m)

/-- A byte stored at `a` (R202, R204, R207, R208, R210, R212, R214). -/
def ldTo (a : Word) (v : Byte) (len : Word) (m : Cycles) (s : State) : Result :=
  storing (s.busWrite a v) fun t => .next (t.retire len m)

/-- A word stored at `a`, low byte first (R220). -/
def ldTo16 (a : Word) (v : Word) (len : Word) (m : Cycles) (s : State) : Result :=
  storing (s.busWrite16 a v) fun t => .next (t.retire len m)

/-- LD (HL+),A and LD (HL-),A: A stored at the old HL, then HL moved by `step` (R215, R216). -/
def ldToHlStep (step : Word) (s : State) : Result :=
  storing (s.busWrite s.hl s.a) fun t => .next ((t.setHl (s.hl + step)).retire 1 2)

/-- LD A,(HL+) and LD A,(HL-): A loaded from the old HL, then HL moved by `step` (R217, R218). -/
def ldFromHlStep (step : Word) (s : State) : Result :=
  reading (s.busRead s.hl) fun v => .next (((s.setReg .a v).setHl (s.hl + step)).retire 1 2)

/-- LD rr,d16 (R219). -/
def ldPairImm (rr : Pair) (d16 : Word) (s : State) : Result := .next ((s.setPair rr d16).retire 3 3)

/-- LD SP,HL (R221). -/
def ldSpFromHl (s : State) : Result := .next ((s.setSp s.hl).retire 1 2)

/-- PUSH qq (R222). -/
def pushPair (qq : StackPair) (s : State) : Result :=
  storing (s.push16 (s.stackPair qq)) fun t => .next (t.retire 1 4)

/-- POP qq (R223): POP AF clears bits 3..0 of F. -/
def popPair (qq : StackPair) (s : State) : Result :=
  reading s.pop16 fun v => .next (((s.setSp (s.sp + 2)).setStackPair qq v).retire 1 3)

/-! ## The instructions -/

/-- LD BC,d16, 0x01 (R219). -/
def execLdBcD16 (d16 : Word) (s : State) : Result := ldPairImm .bc d16 s

/-- LD (BC),A, 0x02 (R207). -/
def execLdIndBcA (s : State) : Result := ldTo s.bc s.a 1 2 s

/-- LD B,d8, 0x06 (R203). -/
def execLdBD8 (d8 : Byte) (s : State) : Result := ldRegImm .b d8 s

/-- LD (a16),SP, 0x08 (R220). -/
def execLdIndA16Sp (a16 : Word) (s : State) : Result := ldTo16 a16 s.sp 3 5 s

/-- LD A,(BC), 0x0A (R205). -/
def execLdAIndBc (s : State) : Result := ldRegFrom .a s.bc 1 2 s

/-- LD C,d8, 0x0E (R203). -/
def execLdCD8 (d8 : Byte) (s : State) : Result := ldRegImm .c d8 s

/-- LD DE,d16, 0x11 (R219). -/
def execLdDeD16 (d16 : Word) (s : State) : Result := ldPairImm .de d16 s

/-- LD (DE),A, 0x12 (R208). -/
def execLdIndDeA (s : State) : Result := ldTo s.de s.a 1 2 s

/-- LD D,d8, 0x16 (R203). -/
def execLdDD8 (d8 : Byte) (s : State) : Result := ldRegImm .d d8 s

/-- LD A,(DE), 0x1A (R206). -/
def execLdAIndDe (s : State) : Result := ldRegFrom .a s.de 1 2 s

/-- LD E,d8, 0x1E (R203). -/
def execLdED8 (d8 : Byte) (s : State) : Result := ldRegImm .e d8 s

/-- LD HL,d16, 0x21 (R219). -/
def execLdHlD16 (d16 : Word) (s : State) : Result := ldPairImm .hl d16 s

/-- LD (HL+),A, 0x22 (R215). -/
def execLdIndHlIncA (s : State) : Result := ldToHlStep 1 s

/-- LD H,d8, 0x26 (R203). -/
def execLdHD8 (d8 : Byte) (s : State) : Result := ldRegImm .h d8 s

/-- LD A,(HL+), 0x2A (R217). -/
def execLdAIndHlInc (s : State) : Result := ldFromHlStep 1 s

/-- LD L,d8, 0x2E (R203). -/
def execLdLD8 (d8 : Byte) (s : State) : Result := ldRegImm .l d8 s

/-- LD SP,d16, 0x31 (R219). -/
def execLdSpD16 (d16 : Word) (s : State) : Result := ldPairImm .sp d16 s

/-- LD (HL-),A, 0x32 (R216). -/
def execLdIndHlDecA (s : State) : Result := ldToHlStep (-1) s

/-- LD (HL),d8, 0x36 (R204). -/
def execLdIndHlD8 (d8 : Byte) (s : State) : Result := ldTo s.hl d8 2 3 s

/-- LD A,(HL-), 0x3A (R218). -/
def execLdAIndHlDec (s : State) : Result := ldFromHlStep (-1) s

/-- LD A,d8, 0x3E (R203). -/
def execLdAD8 (d8 : Byte) (s : State) : Result := ldRegImm .a d8 s

/-- LD B,B, 0x40 (R200). -/
def execLdBB (s : State) : Result := ldRegReg .b .b s

/-- LD B,C, 0x41 (R200). -/
def execLdBC (s : State) : Result := ldRegReg .b .c s

/-- LD B,D, 0x42 (R200). -/
def execLdBD (s : State) : Result := ldRegReg .b .d s

/-- LD B,E, 0x43 (R200). -/
def execLdBE (s : State) : Result := ldRegReg .b .e s

/-- LD B,H, 0x44 (R200). -/
def execLdBH (s : State) : Result := ldRegReg .b .h s

/-- LD B,L, 0x45 (R200). -/
def execLdBL (s : State) : Result := ldRegReg .b .l s

/-- LD B,(HL), 0x46 (R201). -/
def execLdBIndHl (s : State) : Result := ldRegFrom .b s.hl 1 2 s

/-- LD B,A, 0x47 (R200). -/
def execLdBA (s : State) : Result := ldRegReg .b .a s

/-- LD C,B, 0x48 (R200). -/
def execLdCB (s : State) : Result := ldRegReg .c .b s

/-- LD C,C, 0x49 (R200). -/
def execLdCC (s : State) : Result := ldRegReg .c .c s

/-- LD C,D, 0x4A (R200). -/
def execLdCD (s : State) : Result := ldRegReg .c .d s

/-- LD C,E, 0x4B (R200). -/
def execLdCE (s : State) : Result := ldRegReg .c .e s

/-- LD C,H, 0x4C (R200). -/
def execLdCH (s : State) : Result := ldRegReg .c .h s

/-- LD C,L, 0x4D (R200). -/
def execLdCL (s : State) : Result := ldRegReg .c .l s

/-- LD C,(HL), 0x4E (R201). -/
def execLdCIndHl (s : State) : Result := ldRegFrom .c s.hl 1 2 s

/-- LD C,A, 0x4F (R200). -/
def execLdCA (s : State) : Result := ldRegReg .c .a s

/-- LD D,B, 0x50 (R200). -/
def execLdDB (s : State) : Result := ldRegReg .d .b s

/-- LD D,C, 0x51 (R200). -/
def execLdDC (s : State) : Result := ldRegReg .d .c s

/-- LD D,D, 0x52 (R200). -/
def execLdDD (s : State) : Result := ldRegReg .d .d s

/-- LD D,E, 0x53 (R200). -/
def execLdDE (s : State) : Result := ldRegReg .d .e s

/-- LD D,H, 0x54 (R200). -/
def execLdDH (s : State) : Result := ldRegReg .d .h s

/-- LD D,L, 0x55 (R200). -/
def execLdDL (s : State) : Result := ldRegReg .d .l s

/-- LD D,(HL), 0x56 (R201). -/
def execLdDIndHl (s : State) : Result := ldRegFrom .d s.hl 1 2 s

/-- LD D,A, 0x57 (R200). -/
def execLdDA (s : State) : Result := ldRegReg .d .a s

/-- LD E,B, 0x58 (R200). -/
def execLdEB (s : State) : Result := ldRegReg .e .b s

/-- LD E,C, 0x59 (R200). -/
def execLdEC (s : State) : Result := ldRegReg .e .c s

/-- LD E,D, 0x5A (R200). -/
def execLdED (s : State) : Result := ldRegReg .e .d s

/-- LD E,E, 0x5B (R200). -/
def execLdEE (s : State) : Result := ldRegReg .e .e s

/-- LD E,H, 0x5C (R200). -/
def execLdEH (s : State) : Result := ldRegReg .e .h s

/-- LD E,L, 0x5D (R200). -/
def execLdEL (s : State) : Result := ldRegReg .e .l s

/-- LD E,(HL), 0x5E (R201). -/
def execLdEIndHl (s : State) : Result := ldRegFrom .e s.hl 1 2 s

/-- LD E,A, 0x5F (R200). -/
def execLdEA (s : State) : Result := ldRegReg .e .a s

/-- LD H,B, 0x60 (R200). -/
def execLdHB (s : State) : Result := ldRegReg .h .b s

/-- LD H,C, 0x61 (R200). -/
def execLdHC (s : State) : Result := ldRegReg .h .c s

/-- LD H,D, 0x62 (R200). -/
def execLdHD (s : State) : Result := ldRegReg .h .d s

/-- LD H,E, 0x63 (R200). -/
def execLdHE (s : State) : Result := ldRegReg .h .e s

/-- LD H,H, 0x64 (R200). -/
def execLdHH (s : State) : Result := ldRegReg .h .h s

/-- LD H,L, 0x65 (R200). -/
def execLdHL (s : State) : Result := ldRegReg .h .l s

/-- LD H,(HL), 0x66 (R201). -/
def execLdHIndHl (s : State) : Result := ldRegFrom .h s.hl 1 2 s

/-- LD H,A, 0x67 (R200). -/
def execLdHA (s : State) : Result := ldRegReg .h .a s

/-- LD L,B, 0x68 (R200). -/
def execLdLB (s : State) : Result := ldRegReg .l .b s

/-- LD L,C, 0x69 (R200). -/
def execLdLC (s : State) : Result := ldRegReg .l .c s

/-- LD L,D, 0x6A (R200). -/
def execLdLD (s : State) : Result := ldRegReg .l .d s

/-- LD L,E, 0x6B (R200). -/
def execLdLE (s : State) : Result := ldRegReg .l .e s

/-- LD L,H, 0x6C (R200). -/
def execLdLH (s : State) : Result := ldRegReg .l .h s

/-- LD L,L, 0x6D (R200). -/
def execLdLL (s : State) : Result := ldRegReg .l .l s

/-- LD L,(HL), 0x6E (R201). -/
def execLdLIndHl (s : State) : Result := ldRegFrom .l s.hl 1 2 s

/-- LD L,A, 0x6F (R200). -/
def execLdLA (s : State) : Result := ldRegReg .l .a s

/-- LD (HL),B, 0x70 (R202). -/
def execLdIndHlB (s : State) : Result := ldTo s.hl (s.reg .b) 1 2 s

/-- LD (HL),C, 0x71 (R202). -/
def execLdIndHlC (s : State) : Result := ldTo s.hl (s.reg .c) 1 2 s

/-- LD (HL),D, 0x72 (R202). -/
def execLdIndHlD (s : State) : Result := ldTo s.hl (s.reg .d) 1 2 s

/-- LD (HL),E, 0x73 (R202). -/
def execLdIndHlE (s : State) : Result := ldTo s.hl (s.reg .e) 1 2 s

/-- LD (HL),H, 0x74 (R202). -/
def execLdIndHlH (s : State) : Result := ldTo s.hl (s.reg .h) 1 2 s

/-- LD (HL),L, 0x75 (R202). -/
def execLdIndHlL (s : State) : Result := ldTo s.hl (s.reg .l) 1 2 s

/-- LD (HL),A, 0x77 (R202). -/
def execLdIndHlA (s : State) : Result := ldTo s.hl (s.reg .a) 1 2 s

/-- LD A,B, 0x78 (R200). -/
def execLdAB (s : State) : Result := ldRegReg .a .b s

/-- LD A,C, 0x79 (R200). -/
def execLdAC (s : State) : Result := ldRegReg .a .c s

/-- LD A,D, 0x7A (R200). -/
def execLdAD (s : State) : Result := ldRegReg .a .d s

/-- LD A,E, 0x7B (R200). -/
def execLdAE (s : State) : Result := ldRegReg .a .e s

/-- LD A,H, 0x7C (R200). -/
def execLdAH (s : State) : Result := ldRegReg .a .h s

/-- LD A,L, 0x7D (R200). -/
def execLdAL (s : State) : Result := ldRegReg .a .l s

/-- LD A,(HL), 0x7E (R201). -/
def execLdAIndHl (s : State) : Result := ldRegFrom .a s.hl 1 2 s

/-- LD A,A, 0x7F (R200). -/
def execLdAA (s : State) : Result := ldRegReg .a .a s

/-- POP BC, 0xC1 (R223). -/
def execPopBc (s : State) : Result := popPair .bc s

/-- PUSH BC, 0xC5 (R222). -/
def execPushBc (s : State) : Result := pushPair .bc s

/-- POP DE, 0xD1 (R223). -/
def execPopDe (s : State) : Result := popPair .de s

/-- PUSH DE, 0xD5 (R222). -/
def execPushDe (s : State) : Result := pushPair .de s

/-- LDH (a8),A, 0xE0 (R212). -/
def execLdhIndA8A (a8 : Byte) (s : State) : Result := ldTo (highPage a8) s.a 2 3 s

/-- POP HL, 0xE1 (R223). -/
def execPopHl (s : State) : Result := popPair .hl s

/-- LD (C),A, 0xE2 (R214). -/
def execLdIndCA (s : State) : Result := ldTo (highPage s.c) s.a 1 2 s

/-- PUSH HL, 0xE5 (R222). -/
def execPushHl (s : State) : Result := pushPair .hl s

/-- LD (a16),A, 0xEA (R210). -/
def execLdIndA16A (a16 : Word) (s : State) : Result := ldTo a16 s.a 3 4 s

/-- LDH A,(a8), 0xF0 (R211). -/
def execLdhAIndA8 (a8 : Byte) (s : State) : Result := ldRegFrom .a (highPage a8) 2 3 s

/-- POP AF, 0xF1 (R223). -/
def execPopAf (s : State) : Result := popPair .af s

/-- LD A,(C), 0xF2 (R213). -/
def execLdAIndC (s : State) : Result := ldRegFrom .a (highPage s.c) 1 2 s

/-- PUSH AF, 0xF5 (R222). -/
def execPushAf (s : State) : Result := pushPair .af s

/-- LD SP,HL, 0xF9 (R221). -/
def execLdSpHl (s : State) : Result := ldSpFromHl s

/-- LD A,(a16), 0xFA (R209). -/
def execLdAIndA16 (a16 : Word) (s : State) : Result := ldRegFrom .a a16 3 4 s

end Sys2Proof.Machine
end

