-- ==== Sys2Proof/Machine/CbBit.lean ====
section
/-! DEFINITION. Extended bit test, reset and set, CB 0x40-0xFF: spec/47_cb_bit.md R420 to R425. -/

namespace Sys2Proof.Machine

/-! ## The shared forms -/

/-- BIT b,r and BIT b,(HL): no write (R420, R421). -/
def cbBit (n : BitVec 3) (o : Operand8) (s : State) : Result :=
  reading (s.readOperand o) fun v => .next ((s.setFlags (bitFlags n v s.flags.c)).retire 2 (operandCycles o 2 3))

/-- RES b,r and RES b,(HL): no flag (R422, R423). -/
def cbRes (n : BitVec 3) (o : Operand8) (s : State) : Result :=
  reading (s.readOperand o) fun v =>
    storing (s.writeOperand o (resByte n v)) fun t => .next (t.retire 2 (operandCycles o 2 4))

/-- SET b,r and SET b,(HL): no flag (R424, R425). -/
def cbSet (n : BitVec 3) (o : Operand8) (s : State) : Result :=
  reading (s.readOperand o) fun v =>
    storing (s.writeOperand o (setByte n v)) fun t => .next (t.retire 2 (operandCycles o 2 4))

/-! ## The instructions -/

/-- BIT 0,B, 0xCB 0x40 (R420). -/
def execBit0B (s : State) : Result := cbBit 0 (.reg .b) s

/-- BIT 0,C, 0xCB 0x41 (R420). -/
def execBit0C (s : State) : Result := cbBit 0 (.reg .c) s

/-- BIT 0,D, 0xCB 0x42 (R420). -/
def execBit0D (s : State) : Result := cbBit 0 (.reg .d) s

/-- BIT 0,E, 0xCB 0x43 (R420). -/
def execBit0E (s : State) : Result := cbBit 0 (.reg .e) s

/-- BIT 0,H, 0xCB 0x44 (R420). -/
def execBit0H (s : State) : Result := cbBit 0 (.reg .h) s

/-- BIT 0,L, 0xCB 0x45 (R420). -/
def execBit0L (s : State) : Result := cbBit 0 (.reg .l) s

/-- BIT 0,(HL), 0xCB 0x46 (R421). -/
def execBit0IndHl (s : State) : Result := cbBit 0 .indHl s

/-- BIT 0,A, 0xCB 0x47 (R420). -/
def execBit0A (s : State) : Result := cbBit 0 (.reg .a) s

/-- BIT 1,B, 0xCB 0x48 (R420). -/
def execBit1B (s : State) : Result := cbBit 1 (.reg .b) s

/-- BIT 1,C, 0xCB 0x49 (R420). -/
def execBit1C (s : State) : Result := cbBit 1 (.reg .c) s

/-- BIT 1,D, 0xCB 0x4A (R420). -/
def execBit1D (s : State) : Result := cbBit 1 (.reg .d) s

/-- BIT 1,E, 0xCB 0x4B (R420). -/
def execBit1E (s : State) : Result := cbBit 1 (.reg .e) s

/-- BIT 1,H, 0xCB 0x4C (R420). -/
def execBit1H (s : State) : Result := cbBit 1 (.reg .h) s

/-- BIT 1,L, 0xCB 0x4D (R420). -/
def execBit1L (s : State) : Result := cbBit 1 (.reg .l) s

/-- BIT 1,(HL), 0xCB 0x4E (R421). -/
def execBit1IndHl (s : State) : Result := cbBit 1 .indHl s

/-- BIT 1,A, 0xCB 0x4F (R420). -/
def execBit1A (s : State) : Result := cbBit 1 (.reg .a) s

/-- BIT 2,B, 0xCB 0x50 (R420). -/
def execBit2B (s : State) : Result := cbBit 2 (.reg .b) s

/-- BIT 2,C, 0xCB 0x51 (R420). -/
def execBit2C (s : State) : Result := cbBit 2 (.reg .c) s

/-- BIT 2,D, 0xCB 0x52 (R420). -/
def execBit2D (s : State) : Result := cbBit 2 (.reg .d) s

/-- BIT 2,E, 0xCB 0x53 (R420). -/
def execBit2E (s : State) : Result := cbBit 2 (.reg .e) s

/-- BIT 2,H, 0xCB 0x54 (R420). -/
def execBit2H (s : State) : Result := cbBit 2 (.reg .h) s

/-- BIT 2,L, 0xCB 0x55 (R420). -/
def execBit2L (s : State) : Result := cbBit 2 (.reg .l) s

/-- BIT 2,(HL), 0xCB 0x56 (R421). -/
def execBit2IndHl (s : State) : Result := cbBit 2 .indHl s

/-- BIT 2,A, 0xCB 0x57 (R420). -/
def execBit2A (s : State) : Result := cbBit 2 (.reg .a) s

/-- BIT 3,B, 0xCB 0x58 (R420). -/
def execBit3B (s : State) : Result := cbBit 3 (.reg .b) s

/-- BIT 3,C, 0xCB 0x59 (R420). -/
def execBit3C (s : State) : Result := cbBit 3 (.reg .c) s

/-- BIT 3,D, 0xCB 0x5A (R420). -/
def execBit3D (s : State) : Result := cbBit 3 (.reg .d) s

/-- BIT 3,E, 0xCB 0x5B (R420). -/
def execBit3E (s : State) : Result := cbBit 3 (.reg .e) s

/-- BIT 3,H, 0xCB 0x5C (R420). -/
def execBit3H (s : State) : Result := cbBit 3 (.reg .h) s

/-- BIT 3,L, 0xCB 0x5D (R420). -/
def execBit3L (s : State) : Result := cbBit 3 (.reg .l) s

/-- BIT 3,(HL), 0xCB 0x5E (R421). -/
def execBit3IndHl (s : State) : Result := cbBit 3 .indHl s

/-- BIT 3,A, 0xCB 0x5F (R420). -/
def execBit3A (s : State) : Result := cbBit 3 (.reg .a) s

/-- BIT 4,B, 0xCB 0x60 (R420). -/
def execBit4B (s : State) : Result := cbBit 4 (.reg .b) s

/-- BIT 4,C, 0xCB 0x61 (R420). -/
def execBit4C (s : State) : Result := cbBit 4 (.reg .c) s

/-- BIT 4,D, 0xCB 0x62 (R420). -/
def execBit4D (s : State) : Result := cbBit 4 (.reg .d) s

/-- BIT 4,E, 0xCB 0x63 (R420). -/
def execBit4E (s : State) : Result := cbBit 4 (.reg .e) s

/-- BIT 4,H, 0xCB 0x64 (R420). -/
def execBit4H (s : State) : Result := cbBit 4 (.reg .h) s

/-- BIT 4,L, 0xCB 0x65 (R420). -/
def execBit4L (s : State) : Result := cbBit 4 (.reg .l) s

/-- BIT 4,(HL), 0xCB 0x66 (R421). -/
def execBit4IndHl (s : State) : Result := cbBit 4 .indHl s

/-- BIT 4,A, 0xCB 0x67 (R420). -/
def execBit4A (s : State) : Result := cbBit 4 (.reg .a) s

/-- BIT 5,B, 0xCB 0x68 (R420). -/
def execBit5B (s : State) : Result := cbBit 5 (.reg .b) s

/-- BIT 5,C, 0xCB 0x69 (R420). -/
def execBit5C (s : State) : Result := cbBit 5 (.reg .c) s

/-- BIT 5,D, 0xCB 0x6A (R420). -/
def execBit5D (s : State) : Result := cbBit 5 (.reg .d) s

/-- BIT 5,E, 0xCB 0x6B (R420). -/
def execBit5E (s : State) : Result := cbBit 5 (.reg .e) s

/-- BIT 5,H, 0xCB 0x6C (R420). -/
def execBit5H (s : State) : Result := cbBit 5 (.reg .h) s

/-- BIT 5,L, 0xCB 0x6D (R420). -/
def execBit5L (s : State) : Result := cbBit 5 (.reg .l) s

/-- BIT 5,(HL), 0xCB 0x6E (R421). -/
def execBit5IndHl (s : State) : Result := cbBit 5 .indHl s

/-- BIT 5,A, 0xCB 0x6F (R420). -/
def execBit5A (s : State) : Result := cbBit 5 (.reg .a) s

/-- BIT 6,B, 0xCB 0x70 (R420). -/
def execBit6B (s : State) : Result := cbBit 6 (.reg .b) s

/-- BIT 6,C, 0xCB 0x71 (R420). -/
def execBit6C (s : State) : Result := cbBit 6 (.reg .c) s

/-- BIT 6,D, 0xCB 0x72 (R420). -/
def execBit6D (s : State) : Result := cbBit 6 (.reg .d) s

/-- BIT 6,E, 0xCB 0x73 (R420). -/
def execBit6E (s : State) : Result := cbBit 6 (.reg .e) s

/-- BIT 6,H, 0xCB 0x74 (R420). -/
def execBit6H (s : State) : Result := cbBit 6 (.reg .h) s

/-- BIT 6,L, 0xCB 0x75 (R420). -/
def execBit6L (s : State) : Result := cbBit 6 (.reg .l) s

/-- BIT 6,(HL), 0xCB 0x76 (R421). -/
def execBit6IndHl (s : State) : Result := cbBit 6 .indHl s

/-- BIT 6,A, 0xCB 0x77 (R420). -/
def execBit6A (s : State) : Result := cbBit 6 (.reg .a) s

/-- BIT 7,B, 0xCB 0x78 (R420). -/
def execBit7B (s : State) : Result := cbBit 7 (.reg .b) s

/-- BIT 7,C, 0xCB 0x79 (R420). -/
def execBit7C (s : State) : Result := cbBit 7 (.reg .c) s

/-- BIT 7,D, 0xCB 0x7A (R420). -/
def execBit7D (s : State) : Result := cbBit 7 (.reg .d) s

/-- BIT 7,E, 0xCB 0x7B (R420). -/
def execBit7E (s : State) : Result := cbBit 7 (.reg .e) s

/-- BIT 7,H, 0xCB 0x7C (R420). -/
def execBit7H (s : State) : Result := cbBit 7 (.reg .h) s

/-- BIT 7,L, 0xCB 0x7D (R420). -/
def execBit7L (s : State) : Result := cbBit 7 (.reg .l) s

/-- BIT 7,(HL), 0xCB 0x7E (R421). -/
def execBit7IndHl (s : State) : Result := cbBit 7 .indHl s

/-- BIT 7,A, 0xCB 0x7F (R420). -/
def execBit7A (s : State) : Result := cbBit 7 (.reg .a) s

/-- RES 0,B, 0xCB 0x80 (R422). -/
def execRes0B (s : State) : Result := cbRes 0 (.reg .b) s

/-- RES 0,C, 0xCB 0x81 (R422). -/
def execRes0C (s : State) : Result := cbRes 0 (.reg .c) s

/-- RES 0,D, 0xCB 0x82 (R422). -/
def execRes0D (s : State) : Result := cbRes 0 (.reg .d) s

/-- RES 0,E, 0xCB 0x83 (R422). -/
def execRes0E (s : State) : Result := cbRes 0 (.reg .e) s

/-- RES 0,H, 0xCB 0x84 (R422). -/
def execRes0H (s : State) : Result := cbRes 0 (.reg .h) s

/-- RES 0,L, 0xCB 0x85 (R422). -/
def execRes0L (s : State) : Result := cbRes 0 (.reg .l) s

/-- RES 0,(HL), 0xCB 0x86 (R423). -/
def execRes0IndHl (s : State) : Result := cbRes 0 .indHl s

/-- RES 0,A, 0xCB 0x87 (R422). -/
def execRes0A (s : State) : Result := cbRes 0 (.reg .a) s

/-- RES 1,B, 0xCB 0x88 (R422). -/
def execRes1B (s : State) : Result := cbRes 1 (.reg .b) s

/-- RES 1,C, 0xCB 0x89 (R422). -/
def execRes1C (s : State) : Result := cbRes 1 (.reg .c) s

/-- RES 1,D, 0xCB 0x8A (R422). -/
def execRes1D (s : State) : Result := cbRes 1 (.reg .d) s

/-- RES 1,E, 0xCB 0x8B (R422). -/
def execRes1E (s : State) : Result := cbRes 1 (.reg .e) s

/-- RES 1,H, 0xCB 0x8C (R422). -/
def execRes1H (s : State) : Result := cbRes 1 (.reg .h) s

/-- RES 1,L, 0xCB 0x8D (R422). -/
def execRes1L (s : State) : Result := cbRes 1 (.reg .l) s

/-- RES 1,(HL), 0xCB 0x8E (R423). -/
def execRes1IndHl (s : State) : Result := cbRes 1 .indHl s

/-- RES 1,A, 0xCB 0x8F (R422). -/
def execRes1A (s : State) : Result := cbRes 1 (.reg .a) s

/-- RES 2,B, 0xCB 0x90 (R422). -/
def execRes2B (s : State) : Result := cbRes 2 (.reg .b) s

/-- RES 2,C, 0xCB 0x91 (R422). -/
def execRes2C (s : State) : Result := cbRes 2 (.reg .c) s

/-- RES 2,D, 0xCB 0x92 (R422). -/
def execRes2D (s : State) : Result := cbRes 2 (.reg .d) s

/-- RES 2,E, 0xCB 0x93 (R422). -/
def execRes2E (s : State) : Result := cbRes 2 (.reg .e) s

/-- RES 2,H, 0xCB 0x94 (R422). -/
def execRes2H (s : State) : Result := cbRes 2 (.reg .h) s

/-- RES 2,L, 0xCB 0x95 (R422). -/
def execRes2L (s : State) : Result := cbRes 2 (.reg .l) s

/-- RES 2,(HL), 0xCB 0x96 (R423). -/
def execRes2IndHl (s : State) : Result := cbRes 2 .indHl s

/-- RES 2,A, 0xCB 0x97 (R422). -/
def execRes2A (s : State) : Result := cbRes 2 (.reg .a) s

/-- RES 3,B, 0xCB 0x98 (R422). -/
def execRes3B (s : State) : Result := cbRes 3 (.reg .b) s

/-- RES 3,C, 0xCB 0x99 (R422). -/
def execRes3C (s : State) : Result := cbRes 3 (.reg .c) s

/-- RES 3,D, 0xCB 0x9A (R422). -/
def execRes3D (s : State) : Result := cbRes 3 (.reg .d) s

/-- RES 3,E, 0xCB 0x9B (R422). -/
def execRes3E (s : State) : Result := cbRes 3 (.reg .e) s

/-- RES 3,H, 0xCB 0x9C (R422). -/
def execRes3H (s : State) : Result := cbRes 3 (.reg .h) s

/-- RES 3,L, 0xCB 0x9D (R422). -/
def execRes3L (s : State) : Result := cbRes 3 (.reg .l) s

/-- RES 3,(HL), 0xCB 0x9E (R423). -/
def execRes3IndHl (s : State) : Result := cbRes 3 .indHl s

/-- RES 3,A, 0xCB 0x9F (R422). -/
def execRes3A (s : State) : Result := cbRes 3 (.reg .a) s

/-- RES 4,B, 0xCB 0xA0 (R422). -/
def execRes4B (s : State) : Result := cbRes 4 (.reg .b) s

/-- RES 4,C, 0xCB 0xA1 (R422). -/
def execRes4C (s : State) : Result := cbRes 4 (.reg .c) s

/-- RES 4,D, 0xCB 0xA2 (R422). -/
def execRes4D (s : State) : Result := cbRes 4 (.reg .d) s

/-- RES 4,E, 0xCB 0xA3 (R422). -/
def execRes4E (s : State) : Result := cbRes 4 (.reg .e) s

/-- RES 4,H, 0xCB 0xA4 (R422). -/
def execRes4H (s : State) : Result := cbRes 4 (.reg .h) s

/-- RES 4,L, 0xCB 0xA5 (R422). -/
def execRes4L (s : State) : Result := cbRes 4 (.reg .l) s

/-- RES 4,(HL), 0xCB 0xA6 (R423). -/
def execRes4IndHl (s : State) : Result := cbRes 4 .indHl s

/-- RES 4,A, 0xCB 0xA7 (R422). -/
def execRes4A (s : State) : Result := cbRes 4 (.reg .a) s

/-- RES 5,B, 0xCB 0xA8 (R422). -/
def execRes5B (s : State) : Result := cbRes 5 (.reg .b) s

/-- RES 5,C, 0xCB 0xA9 (R422). -/
def execRes5C (s : State) : Result := cbRes 5 (.reg .c) s

/-- RES 5,D, 0xCB 0xAA (R422). -/
def execRes5D (s : State) : Result := cbRes 5 (.reg .d) s

/-- RES 5,E, 0xCB 0xAB (R422). -/
def execRes5E (s : State) : Result := cbRes 5 (.reg .e) s

/-- RES 5,H, 0xCB 0xAC (R422). -/
def execRes5H (s : State) : Result := cbRes 5 (.reg .h) s

/-- RES 5,L, 0xCB 0xAD (R422). -/
def execRes5L (s : State) : Result := cbRes 5 (.reg .l) s

/-- RES 5,(HL), 0xCB 0xAE (R423). -/
def execRes5IndHl (s : State) : Result := cbRes 5 .indHl s

/-- RES 5,A, 0xCB 0xAF (R422). -/
def execRes5A (s : State) : Result := cbRes 5 (.reg .a) s

/-- RES 6,B, 0xCB 0xB0 (R422). -/
def execRes6B (s : State) : Result := cbRes 6 (.reg .b) s

/-- RES 6,C, 0xCB 0xB1 (R422). -/
def execRes6C (s : State) : Result := cbRes 6 (.reg .c) s

/-- RES 6,D, 0xCB 0xB2 (R422). -/
def execRes6D (s : State) : Result := cbRes 6 (.reg .d) s

/-- RES 6,E, 0xCB 0xB3 (R422). -/
def execRes6E (s : State) : Result := cbRes 6 (.reg .e) s

/-- RES 6,H, 0xCB 0xB4 (R422). -/
def execRes6H (s : State) : Result := cbRes 6 (.reg .h) s

/-- RES 6,L, 0xCB 0xB5 (R422). -/
def execRes6L (s : State) : Result := cbRes 6 (.reg .l) s

/-- RES 6,(HL), 0xCB 0xB6 (R423). -/
def execRes6IndHl (s : State) : Result := cbRes 6 .indHl s

/-- RES 6,A, 0xCB 0xB7 (R422). -/
def execRes6A (s : State) : Result := cbRes 6 (.reg .a) s

/-- RES 7,B, 0xCB 0xB8 (R422). -/
def execRes7B (s : State) : Result := cbRes 7 (.reg .b) s

/-- RES 7,C, 0xCB 0xB9 (R422). -/
def execRes7C (s : State) : Result := cbRes 7 (.reg .c) s

/-- RES 7,D, 0xCB 0xBA (R422). -/
def execRes7D (s : State) : Result := cbRes 7 (.reg .d) s

/-- RES 7,E, 0xCB 0xBB (R422). -/
def execRes7E (s : State) : Result := cbRes 7 (.reg .e) s

/-- RES 7,H, 0xCB 0xBC (R422). -/
def execRes7H (s : State) : Result := cbRes 7 (.reg .h) s

/-- RES 7,L, 0xCB 0xBD (R422). -/
def execRes7L (s : State) : Result := cbRes 7 (.reg .l) s

/-- RES 7,(HL), 0xCB 0xBE (R423). -/
def execRes7IndHl (s : State) : Result := cbRes 7 .indHl s

/-- RES 7,A, 0xCB 0xBF (R422). -/
def execRes7A (s : State) : Result := cbRes 7 (.reg .a) s

/-- SET 0,B, 0xCB 0xC0 (R424). -/
def execSet0B (s : State) : Result := cbSet 0 (.reg .b) s

/-- SET 0,C, 0xCB 0xC1 (R424). -/
def execSet0C (s : State) : Result := cbSet 0 (.reg .c) s

/-- SET 0,D, 0xCB 0xC2 (R424). -/
def execSet0D (s : State) : Result := cbSet 0 (.reg .d) s

/-- SET 0,E, 0xCB 0xC3 (R424). -/
def execSet0E (s : State) : Result := cbSet 0 (.reg .e) s

/-- SET 0,H, 0xCB 0xC4 (R424). -/
def execSet0H (s : State) : Result := cbSet 0 (.reg .h) s

/-- SET 0,L, 0xCB 0xC5 (R424). -/
def execSet0L (s : State) : Result := cbSet 0 (.reg .l) s

/-- SET 0,(HL), 0xCB 0xC6 (R425). -/
def execSet0IndHl (s : State) : Result := cbSet 0 .indHl s

/-- SET 0,A, 0xCB 0xC7 (R424). -/
def execSet0A (s : State) : Result := cbSet 0 (.reg .a) s

/-- SET 1,B, 0xCB 0xC8 (R424). -/
def execSet1B (s : State) : Result := cbSet 1 (.reg .b) s

/-- SET 1,C, 0xCB 0xC9 (R424). -/
def execSet1C (s : State) : Result := cbSet 1 (.reg .c) s

/-- SET 1,D, 0xCB 0xCA (R424). -/
def execSet1D (s : State) : Result := cbSet 1 (.reg .d) s

/-- SET 1,E, 0xCB 0xCB (R424). -/
def execSet1E (s : State) : Result := cbSet 1 (.reg .e) s

/-- SET 1,H, 0xCB 0xCC (R424). -/
def execSet1H (s : State) : Result := cbSet 1 (.reg .h) s

/-- SET 1,L, 0xCB 0xCD (R424). -/
def execSet1L (s : State) : Result := cbSet 1 (.reg .l) s

/-- SET 1,(HL), 0xCB 0xCE (R425). -/
def execSet1IndHl (s : State) : Result := cbSet 1 .indHl s

/-- SET 1,A, 0xCB 0xCF (R424). -/
def execSet1A (s : State) : Result := cbSet 1 (.reg .a) s

/-- SET 2,B, 0xCB 0xD0 (R424). -/
def execSet2B (s : State) : Result := cbSet 2 (.reg .b) s

/-- SET 2,C, 0xCB 0xD1 (R424). -/
def execSet2C (s : State) : Result := cbSet 2 (.reg .c) s

/-- SET 2,D, 0xCB 0xD2 (R424). -/
def execSet2D (s : State) : Result := cbSet 2 (.reg .d) s

/-- SET 2,E, 0xCB 0xD3 (R424). -/
def execSet2E (s : State) : Result := cbSet 2 (.reg .e) s

/-- SET 2,H, 0xCB 0xD4 (R424). -/
def execSet2H (s : State) : Result := cbSet 2 (.reg .h) s

/-- SET 2,L, 0xCB 0xD5 (R424). -/
def execSet2L (s : State) : Result := cbSet 2 (.reg .l) s

/-- SET 2,(HL), 0xCB 0xD6 (R425). -/
def execSet2IndHl (s : State) : Result := cbSet 2 .indHl s

/-- SET 2,A, 0xCB 0xD7 (R424). -/
def execSet2A (s : State) : Result := cbSet 2 (.reg .a) s

/-- SET 3,B, 0xCB 0xD8 (R424). -/
def execSet3B (s : State) : Result := cbSet 3 (.reg .b) s

/-- SET 3,C, 0xCB 0xD9 (R424). -/
def execSet3C (s : State) : Result := cbSet 3 (.reg .c) s

/-- SET 3,D, 0xCB 0xDA (R424). -/
def execSet3D (s : State) : Result := cbSet 3 (.reg .d) s

/-- SET 3,E, 0xCB 0xDB (R424). -/
def execSet3E (s : State) : Result := cbSet 3 (.reg .e) s

/-- SET 3,H, 0xCB 0xDC (R424). -/
def execSet3H (s : State) : Result := cbSet 3 (.reg .h) s

/-- SET 3,L, 0xCB 0xDD (R424). -/
def execSet3L (s : State) : Result := cbSet 3 (.reg .l) s

/-- SET 3,(HL), 0xCB 0xDE (R425). -/
def execSet3IndHl (s : State) : Result := cbSet 3 .indHl s

/-- SET 3,A, 0xCB 0xDF (R424). -/
def execSet3A (s : State) : Result := cbSet 3 (.reg .a) s

/-- SET 4,B, 0xCB 0xE0 (R424). -/
def execSet4B (s : State) : Result := cbSet 4 (.reg .b) s

/-- SET 4,C, 0xCB 0xE1 (R424). -/
def execSet4C (s : State) : Result := cbSet 4 (.reg .c) s

/-- SET 4,D, 0xCB 0xE2 (R424). -/
def execSet4D (s : State) : Result := cbSet 4 (.reg .d) s

/-- SET 4,E, 0xCB 0xE3 (R424). -/
def execSet4E (s : State) : Result := cbSet 4 (.reg .e) s

/-- SET 4,H, 0xCB 0xE4 (R424). -/
def execSet4H (s : State) : Result := cbSet 4 (.reg .h) s

/-- SET 4,L, 0xCB 0xE5 (R424). -/
def execSet4L (s : State) : Result := cbSet 4 (.reg .l) s

/-- SET 4,(HL), 0xCB 0xE6 (R425). -/
def execSet4IndHl (s : State) : Result := cbSet 4 .indHl s

/-- SET 4,A, 0xCB 0xE7 (R424). -/
def execSet4A (s : State) : Result := cbSet 4 (.reg .a) s

/-- SET 5,B, 0xCB 0xE8 (R424). -/
def execSet5B (s : State) : Result := cbSet 5 (.reg .b) s

/-- SET 5,C, 0xCB 0xE9 (R424). -/
def execSet5C (s : State) : Result := cbSet 5 (.reg .c) s

/-- SET 5,D, 0xCB 0xEA (R424). -/
def execSet5D (s : State) : Result := cbSet 5 (.reg .d) s

/-- SET 5,E, 0xCB 0xEB (R424). -/
def execSet5E (s : State) : Result := cbSet 5 (.reg .e) s

/-- SET 5,H, 0xCB 0xEC (R424). -/
def execSet5H (s : State) : Result := cbSet 5 (.reg .h) s

/-- SET 5,L, 0xCB 0xED (R424). -/
def execSet5L (s : State) : Result := cbSet 5 (.reg .l) s

/-- SET 5,(HL), 0xCB 0xEE (R425). -/
def execSet5IndHl (s : State) : Result := cbSet 5 .indHl s

/-- SET 5,A, 0xCB 0xEF (R424). -/
def execSet5A (s : State) : Result := cbSet 5 (.reg .a) s

/-- SET 6,B, 0xCB 0xF0 (R424). -/
def execSet6B (s : State) : Result := cbSet 6 (.reg .b) s

/-- SET 6,C, 0xCB 0xF1 (R424). -/
def execSet6C (s : State) : Result := cbSet 6 (.reg .c) s

/-- SET 6,D, 0xCB 0xF2 (R424). -/
def execSet6D (s : State) : Result := cbSet 6 (.reg .d) s

/-- SET 6,E, 0xCB 0xF3 (R424). -/
def execSet6E (s : State) : Result := cbSet 6 (.reg .e) s

/-- SET 6,H, 0xCB 0xF4 (R424). -/
def execSet6H (s : State) : Result := cbSet 6 (.reg .h) s

/-- SET 6,L, 0xCB 0xF5 (R424). -/
def execSet6L (s : State) : Result := cbSet 6 (.reg .l) s

/-- SET 6,(HL), 0xCB 0xF6 (R425). -/
def execSet6IndHl (s : State) : Result := cbSet 6 .indHl s

/-- SET 6,A, 0xCB 0xF7 (R424). -/
def execSet6A (s : State) : Result := cbSet 6 (.reg .a) s

/-- SET 7,B, 0xCB 0xF8 (R424). -/
def execSet7B (s : State) : Result := cbSet 7 (.reg .b) s

/-- SET 7,C, 0xCB 0xF9 (R424). -/
def execSet7C (s : State) : Result := cbSet 7 (.reg .c) s

/-- SET 7,D, 0xCB 0xFA (R424). -/
def execSet7D (s : State) : Result := cbSet 7 (.reg .d) s

/-- SET 7,E, 0xCB 0xFB (R424). -/
def execSet7E (s : State) : Result := cbSet 7 (.reg .e) s

/-- SET 7,H, 0xCB 0xFC (R424). -/
def execSet7H (s : State) : Result := cbSet 7 (.reg .h) s

/-- SET 7,L, 0xCB 0xFD (R424). -/
def execSet7L (s : State) : Result := cbSet 7 (.reg .l) s

/-- SET 7,(HL), 0xCB 0xFE (R425). -/
def execSet7IndHl (s : State) : Result := cbSet 7 .indHl s

/-- SET 7,A, 0xCB 0xFF (R424). -/
def execSet7A (s : State) : Result := cbSet 7 (.reg .a) s

end Sys2Proof.Machine
end

