-- ==== Sys2Proof/Machine/CbShift.lean ====
section
/-! DEFINITION. Extended shifts and rotates, CB 0x00-0x3F: spec/46_cb_shift.md R390 to R406. -/

namespace Sys2Proof.Machine

/-! ## The shared form -/

/-- A CB shift, rotate or swap: operand read, then written, then the flags (R390 to R406). -/
def cbShift (op : ShiftOp) (o : Operand8) (s : State) : Result :=
  reading (s.readOperand o) fun v =>
    let r := shiftResult op v s.flags.c
    storing (s.writeOperand o r.res) fun t => .next ((t.setFlags r.flags).retire 2 (operandCycles o 2 4))

/-! ## The instructions -/

/-- RLC B, 0xCB 0x00 (R391). -/
def execRlcB (s : State) : Result := cbShift .rlc (.reg .b) s

/-- RLC C, 0xCB 0x01 (R391). -/
def execRlcC (s : State) : Result := cbShift .rlc (.reg .c) s

/-- RLC D, 0xCB 0x02 (R391). -/
def execRlcD (s : State) : Result := cbShift .rlc (.reg .d) s

/-- RLC E, 0xCB 0x03 (R391). -/
def execRlcE (s : State) : Result := cbShift .rlc (.reg .e) s

/-- RLC H, 0xCB 0x04 (R391). -/
def execRlcH (s : State) : Result := cbShift .rlc (.reg .h) s

/-- RLC L, 0xCB 0x05 (R391). -/
def execRlcL (s : State) : Result := cbShift .rlc (.reg .l) s

/-- RLC (HL), 0xCB 0x06 (R392). -/
def execRlcIndHl (s : State) : Result := cbShift .rlc .indHl s

/-- RLC A, 0xCB 0x07 (R391). -/
def execRlcA (s : State) : Result := cbShift .rlc (.reg .a) s

/-- RRC B, 0xCB 0x08 (R393). -/
def execRrcB (s : State) : Result := cbShift .rrc (.reg .b) s

/-- RRC C, 0xCB 0x09 (R393). -/
def execRrcC (s : State) : Result := cbShift .rrc (.reg .c) s

/-- RRC D, 0xCB 0x0A (R393). -/
def execRrcD (s : State) : Result := cbShift .rrc (.reg .d) s

/-- RRC E, 0xCB 0x0B (R393). -/
def execRrcE (s : State) : Result := cbShift .rrc (.reg .e) s

/-- RRC H, 0xCB 0x0C (R393). -/
def execRrcH (s : State) : Result := cbShift .rrc (.reg .h) s

/-- RRC L, 0xCB 0x0D (R393). -/
def execRrcL (s : State) : Result := cbShift .rrc (.reg .l) s

/-- RRC (HL), 0xCB 0x0E (R394). -/
def execRrcIndHl (s : State) : Result := cbShift .rrc .indHl s

/-- RRC A, 0xCB 0x0F (R393). -/
def execRrcA (s : State) : Result := cbShift .rrc (.reg .a) s

/-- RL B, 0xCB 0x10 (R395). -/
def execRlB (s : State) : Result := cbShift .rl (.reg .b) s

/-- RL C, 0xCB 0x11 (R395). -/
def execRlC (s : State) : Result := cbShift .rl (.reg .c) s

/-- RL D, 0xCB 0x12 (R395). -/
def execRlD (s : State) : Result := cbShift .rl (.reg .d) s

/-- RL E, 0xCB 0x13 (R395). -/
def execRlE (s : State) : Result := cbShift .rl (.reg .e) s

/-- RL H, 0xCB 0x14 (R395). -/
def execRlH (s : State) : Result := cbShift .rl (.reg .h) s

/-- RL L, 0xCB 0x15 (R395). -/
def execRlL (s : State) : Result := cbShift .rl (.reg .l) s

/-- RL (HL), 0xCB 0x16 (R396). -/
def execRlIndHl (s : State) : Result := cbShift .rl .indHl s

/-- RL A, 0xCB 0x17 (R395). -/
def execRlA (s : State) : Result := cbShift .rl (.reg .a) s

/-- RR B, 0xCB 0x18 (R397). -/
def execRrB (s : State) : Result := cbShift .rr (.reg .b) s

/-- RR C, 0xCB 0x19 (R397). -/
def execRrC (s : State) : Result := cbShift .rr (.reg .c) s

/-- RR D, 0xCB 0x1A (R397). -/
def execRrD (s : State) : Result := cbShift .rr (.reg .d) s

/-- RR E, 0xCB 0x1B (R397). -/
def execRrE (s : State) : Result := cbShift .rr (.reg .e) s

/-- RR H, 0xCB 0x1C (R397). -/
def execRrH (s : State) : Result := cbShift .rr (.reg .h) s

/-- RR L, 0xCB 0x1D (R397). -/
def execRrL (s : State) : Result := cbShift .rr (.reg .l) s

/-- RR (HL), 0xCB 0x1E (R398). -/
def execRrIndHl (s : State) : Result := cbShift .rr .indHl s

/-- RR A, 0xCB 0x1F (R397). -/
def execRrA (s : State) : Result := cbShift .rr (.reg .a) s

/-- SLA B, 0xCB 0x20 (R399). -/
def execSlaB (s : State) : Result := cbShift .sla (.reg .b) s

/-- SLA C, 0xCB 0x21 (R399). -/
def execSlaC (s : State) : Result := cbShift .sla (.reg .c) s

/-- SLA D, 0xCB 0x22 (R399). -/
def execSlaD (s : State) : Result := cbShift .sla (.reg .d) s

/-- SLA E, 0xCB 0x23 (R399). -/
def execSlaE (s : State) : Result := cbShift .sla (.reg .e) s

/-- SLA H, 0xCB 0x24 (R399). -/
def execSlaH (s : State) : Result := cbShift .sla (.reg .h) s

/-- SLA L, 0xCB 0x25 (R399). -/
def execSlaL (s : State) : Result := cbShift .sla (.reg .l) s

/-- SLA (HL), 0xCB 0x26 (R400). -/
def execSlaIndHl (s : State) : Result := cbShift .sla .indHl s

/-- SLA A, 0xCB 0x27 (R399). -/
def execSlaA (s : State) : Result := cbShift .sla (.reg .a) s

/-- SRA B, 0xCB 0x28 (R401). -/
def execSraB (s : State) : Result := cbShift .sra (.reg .b) s

/-- SRA C, 0xCB 0x29 (R401). -/
def execSraC (s : State) : Result := cbShift .sra (.reg .c) s

/-- SRA D, 0xCB 0x2A (R401). -/
def execSraD (s : State) : Result := cbShift .sra (.reg .d) s

/-- SRA E, 0xCB 0x2B (R401). -/
def execSraE (s : State) : Result := cbShift .sra (.reg .e) s

/-- SRA H, 0xCB 0x2C (R401). -/
def execSraH (s : State) : Result := cbShift .sra (.reg .h) s

/-- SRA L, 0xCB 0x2D (R401). -/
def execSraL (s : State) : Result := cbShift .sra (.reg .l) s

/-- SRA (HL), 0xCB 0x2E (R402). -/
def execSraIndHl (s : State) : Result := cbShift .sra .indHl s

/-- SRA A, 0xCB 0x2F (R401). -/
def execSraA (s : State) : Result := cbShift .sra (.reg .a) s

/-- SWAP B, 0xCB 0x30 (R403). -/
def execSwapB (s : State) : Result := cbShift .swap (.reg .b) s

/-- SWAP C, 0xCB 0x31 (R403). -/
def execSwapC (s : State) : Result := cbShift .swap (.reg .c) s

/-- SWAP D, 0xCB 0x32 (R403). -/
def execSwapD (s : State) : Result := cbShift .swap (.reg .d) s

/-- SWAP E, 0xCB 0x33 (R403). -/
def execSwapE (s : State) : Result := cbShift .swap (.reg .e) s

/-- SWAP H, 0xCB 0x34 (R403). -/
def execSwapH (s : State) : Result := cbShift .swap (.reg .h) s

/-- SWAP L, 0xCB 0x35 (R403). -/
def execSwapL (s : State) : Result := cbShift .swap (.reg .l) s

/-- SWAP (HL), 0xCB 0x36 (R404). -/
def execSwapIndHl (s : State) : Result := cbShift .swap .indHl s

/-- SWAP A, 0xCB 0x37 (R403). -/
def execSwapA (s : State) : Result := cbShift .swap (.reg .a) s

/-- SRL B, 0xCB 0x38 (R405). -/
def execSrlB (s : State) : Result := cbShift .srl (.reg .b) s

/-- SRL C, 0xCB 0x39 (R405). -/
def execSrlC (s : State) : Result := cbShift .srl (.reg .c) s

/-- SRL D, 0xCB 0x3A (R405). -/
def execSrlD (s : State) : Result := cbShift .srl (.reg .d) s

/-- SRL E, 0xCB 0x3B (R405). -/
def execSrlE (s : State) : Result := cbShift .srl (.reg .e) s

/-- SRL H, 0xCB 0x3C (R405). -/
def execSrlH (s : State) : Result := cbShift .srl (.reg .h) s

/-- SRL L, 0xCB 0x3D (R405). -/
def execSrlL (s : State) : Result := cbShift .srl (.reg .l) s

/-- SRL (HL), 0xCB 0x3E (R406). -/
def execSrlIndHl (s : State) : Result := cbShift .srl .indHl s

/-- SRL A, 0xCB 0x3F (R405). -/
def execSrlA (s : State) : Result := cbShift .srl (.reg .a) s

end Sys2Proof.Machine
end

