-- ==== Sys2Proof/Machine/Prefix.lean ====
section
/-! DEFINITION. The prefix slot 0xCB: spec/30_encoding.md R163, R164. -/

namespace Sys2Proof.Machine

/-- The secondary handler of second byte `n` (R163, R164): by region, group or bit number, and operand. -/
def secondary (n : Byte) (s : State) : Result :=
  let o := operandField (fieldZ n)
  match fieldX n with
  | 0 => cbShift (shiftField (fieldY n)) o s
  | 1 => cbBit (BitVec.ofNat 3 (fieldY n)) o s
  | 2 => cbRes (BitVec.ofNat 3 (fieldY n)) o s
  | _ => cbSet (BitVec.ofNat 3 (fieldY n)) o s

/-! ## The instructions -/

/-- PREFIX CB, 0xCB (R163). -/
def execPrefixCb (n : Byte) (s : State) : Result := secondary n s

end Sys2Proof.Machine
end

