-- ==== Sys2Proof/Machine/System.lean ====
section
/-! DEFINITION. System instructions and the undefined primary opcodes: spec/45_system.md R370 to R375. -/

namespace Sys2Proof.Machine

/-! ## The shared forms -/

/-- Nothing beyond the opcode fetch and one M-cycle: NOP, STOP, DI, EI (R370, R372, R373, R374). -/
def idle (s : State) : Result := .next (s.retire 1 1)

/-- HALT under a `HALT_POLICY` (R371; log entry 3). -/
def haltUnder (policy : HaltPolicy) (s : State) : Result :=
  match policy with
  | .nop => idle s
  | .stuck => .fault .stuck

/-- An undefined primary opcode under an `UNDEF_POLICY` (R375). -/
def undefUnder (policy : UndefPolicy) (op : Byte) (s : State) : Result :=
  match policy with
  | .nop => idle s
  | .fault => .fault (.undefinedOpcode op)

/-! ## The instructions -/

/-- NOP, 0x00 (R370). -/
def execNop (s : State) : Result := idle s

/-- STOP, 0x10 (R372). -/
def execStop (s : State) : Result := idle s

/-- HALT, 0x76 (R371). -/
def execHalt (s : State) : Result := haltUnder Config.haltPolicy s

/-- UNDEF 0xD3, 0xD3 (R375). -/
def execUndefD3 (s : State) : Result := undefUnder Config.undefPolicy 0xD3 s

/-- UNDEF 0xDB, 0xDB (R375). -/
def execUndefDB (s : State) : Result := undefUnder Config.undefPolicy 0xDB s

/-- UNDEF 0xDD, 0xDD (R375). -/
def execUndefDD (s : State) : Result := undefUnder Config.undefPolicy 0xDD s

/-- UNDEF 0xE3, 0xE3 (R375). -/
def execUndefE3 (s : State) : Result := undefUnder Config.undefPolicy 0xE3 s

/-- UNDEF 0xE4, 0xE4 (R375). -/
def execUndefE4 (s : State) : Result := undefUnder Config.undefPolicy 0xE4 s

/-- UNDEF 0xEB, 0xEB (R375). -/
def execUndefEB (s : State) : Result := undefUnder Config.undefPolicy 0xEB s

/-- UNDEF 0xEC, 0xEC (R375). -/
def execUndefEC (s : State) : Result := undefUnder Config.undefPolicy 0xEC s

/-- UNDEF 0xED, 0xED (R375). -/
def execUndefED (s : State) : Result := undefUnder Config.undefPolicy 0xED s

/-- DI, 0xF3 (R373). -/
def execDi (s : State) : Result := idle s

/-- UNDEF 0xF4, 0xF4 (R375). -/
def execUndefF4 (s : State) : Result := undefUnder Config.undefPolicy 0xF4 s

/-- EI, 0xFB (R374). -/
def execEi (s : State) : Result := idle s

/-- UNDEF 0xFC, 0xFC (R375). -/
def execUndefFC (s : State) : Result := undefUnder Config.undefPolicy 0xFC s

/-- UNDEF 0xFD, 0xFD (R375). -/
def execUndefFD (s : State) : Result := undefUnder Config.undefPolicy 0xFD s

end Sys2Proof.Machine
end

