-- ==== Sys2Proof/Machine/Fetch.lean ====
section
/-! DEFINITION. Fetching an instruction (R12, R150, R163, R167), and placing instruction bytes where the next fetch reads
them. -/

namespace Sys2Proof.Machine

/-- The `n` bytes the bus answers at `a`, `a + 1`, and so on, wrapping at 0xFFFF (R38). -/
def State.bytesAt (s : State) (a : Word) (n : Nat) : Except Fault (List Byte) :=
  match n with
  | 0 => .ok []
  | n + 1 =>
    match s.busRead a with
    | .error r => .error r
    | .ok v =>
      match s.bytesAt (a + 1) n with
      | .error r => .error r
      | .ok rest => .ok (v :: rest)

/-- The instruction at PC: the opcode byte, then exactly the operand bytes it has, in increasing address order (R125,
R150, R151, R167). -/
def State.fetchInstr (s : State) : Except Fault Instr :=
  match s.busRead s.pc with
  | .error r => .error r
  | .ok op =>
    match s.bytesAt (s.pc + 1) (instrLength op - 1) with
    | .error r => .error r
    | .ok operands => .ok (decodeInstr op (operands.getD 0 0) (operands.getD 1 0))

/-! ## Placing a program (log entry 8) -/

/-- The cartridge a program is placed in where none is loaded: 32768 bytes of 0x00, no banking. -/
def Cart.blank : Cart := Cart.ofImage { size := 0x8000, cells := [] } []

/-- An image byte changed, the image grown to hold it. -/
def Cart.setImageByte (ct : Cart) (i : Nat) (v : Byte) : Cart :=
  { ct with image := { size := max ct.image.size (i + 1), cells := ct.image.cells.set i v } }

/-- Make a read of address `a` answer `v`, where something can be stored there: from outside the machine, as a load does. -/
def State.place (s : State) (a : Word) (v : Byte) : State :=
  let ct := s.cart.getD Cart.blank
  match decodeAddr a with
  | .romFixed => { s with cart := some (ct.setImageByte a.toNat v) }
  | .romSwitch => { s with cart := some (ct.setImageByte (ct.switchOffset a) v) }
  | .extRam => { s with cart := some (ct.writeRam a v) }
  | .vram => s.setRam (storageIndex a) v
  | .wram => s.setRam (storageIndex a) v
  | .mirror => s.setRam (storageIndex a) v
  | .oam => s.setRam (storageIndex a) v
  | .hram => s.setRam (storageIndex a) v
  | .ie => { s with ie := v }
  | .io => s
  | .unmapped => s

/-- The bytes of a table word, and 0x00 up to the longest instruction, at PC (log entries 7 and 8). -/
def State.placeTableWord (s : State) (nbits w : Nat) : State :=
  let (b0, b1, b2) := tableBytes nbits w
  ((s.place s.pc b0).place (s.pc + 1) b1).place (s.pc + 2) b2

end Sys2Proof.Machine
end

