-- ==== Sys2Proof/Machine/Step.lean ====
section
/-! DEFINITION. One step (R150). -/

namespace Sys2Proof.Machine

/-- `step()` (R150): fetch the instruction at PC, run its handler; the handler advances PC past the instruction's bytes and
charges its duration. A model fault ends the step with no successor (R441). -/
def step (s : State) : Host.Outcome State Fault Refusal :=
  match s.fetchInstr with
  | .ok i => exec i s
  | .error r => .fault r

/-- `s` with the instruction of a table word where `step` fetches next (log entry 8). -/
def State.withFetchWord (s : State) (nbits w : Nat) : State := s.placeTableWord nbits w

end Sys2Proof.Machine
end

