-- ==== Sys2Proof/Machine/Interaction.lean ====
section
/-! DEFINITION. What the host can do to the machine between steps (R455), the two initializations (R480 to R482), cartridge
load and unload (R102, R483), and the post-boot I/O initialization (R484). -/

namespace Sys2Proof.Machine

/-- `load(bytes)` (R483): any previous image freed, the new one installed, the scheme selected, the bank state reset. No
CPU register, no bus buffer and not the cycle counter changes. `eramInit` is external RAM's `INIT_MEM`. -/
def State.load (s : State) (bytes : List Byte) (eramInit : Memory) : State :=
  { s with cart := some (Cart.ofImage (Image.ofBytes bytes) eramInit) }

/-- `unload()` (R102). -/
def State.unload (s : State) : State := { s with cart := none }

/-- The register file at the values of R480. -/
def State.setPostBootRegs (s : State) : State :=
  { s with a := 0x01, f := 0xB0, b := 0x00, c := 0x13, d := 0x00, e := 0xD8, h := 0x01, l := 0x4D, sp := 0xFFFE, pc := 0x0100 }

/-- CPU initialization (R480, R481): the register file and the cycle counter, and nothing else; a cartridge loaded before it
stays (R486). -/
def State.cpuInit (s : State) : State := { s.setPostBootRegs with cyc := 0 }

/-- Bus initialization (R482): the buffers, `ie`, `sb` and `serial_out`, and no cartridge; no CPU register changes. -/
def State.busInit (s : State) (initMem : Memory) : State :=
  { s with ram := initMem, ie := 0x00, sb := 0x00, serialOut := [], cart := none }

/-- The bus writes of the post-boot I/O initialization, in order (R484). -/
def postBootWrites : List (Word × Byte) :=
  [(0xFF05, 0x00), (0xFF06, 0x00), (0xFF07, 0x00), (0xFF10, 0x80), (0xFF11, 0xBF), (0xFF12, 0xF3), (0xFF14, 0xBF)] ++
  [(0xFF16, 0x3F), (0xFF17, 0x00), (0xFF19, 0xBF), (0xFF1A, 0x7F), (0xFF1B, 0xFF), (0xFF1C, 0x9F), (0xFF1E, 0xBF)] ++
  [(0xFF20, 0xFF), (0xFF21, 0x00), (0xFF22, 0x00), (0xFF23, 0xBF), (0xFF24, 0x77), (0xFF25, 0xF3), (0xFF26, 0xF1)] ++
  [(0xFF40, 0x91), (0xFF42, 0x00), (0xFF43, 0x00), (0xFF45, 0x00), (0xFF47, 0xFC), (0xFF48, 0xFF), (0xFF49, 0xFF)] ++
  [(0xFF4A, 0x00), (0xFF4B, 0x00), (0xFFFF, 0x00)]

/-- Bus writes in order, the first fault ending them. -/
def State.busWrites (s : State) (ws : List (Word × Byte)) : Except Fault State :=
  match ws with
  | [] => .ok s
  | (a, v) :: rest =>
    match s.busWrite a v with
    | .error r => .error r
    | .ok t => t.busWrites rest

/-- The post-boot I/O initialization (R484): the register file, then the writes, through the bus. -/
def State.postBoot (s : State) : Except Fault State := s.setPostBootRegs.busWrites postBootWrites

/-- The host's interactions (R455), and the two parts of `init`, which R486 lets a load stand between (DEDUCED, log
entry 11). -/
inductive Interaction where
  /-- bus and CPU initialization with the buffers' contents, or the host failure to allocate them; it leaves no cartridge
  (R455), so one loaded before it is dropped -/
  | init (initMem : Option Memory)
  /-- bus initialization alone (R482), or the host failure to allocate the buffers -/
  | busInit (initMem : Option Memory)
  /-- CPU initialization alone (R480, R481): the cartridge and the bus stay (R486) -/
  | cpuInit
  /-- `load`, or the host failure "cartridge image unreadable" -/
  | load (bytes : Option (List Byte)) (eramInit : Memory)
  | unload
  | step
  | busRead (a : Word)
  | busWrite (a : Word) (v : Byte)
  | postBoot
  | observe
deriving DecidableEq, Repr

/-- What an interaction leaves and answers (R455). -/
inductive Answer where
  /-- the state after it, and the byte a bus read returns -/
  | next (s : State) (byte : Option Byte)
  /-- a model fault: no successor state, the state stays as it was (R441) -/
  | fault (r : Fault)
  /-- a host failure at load or initialization: no machine state results (R440) -/
  | hostFailure
  /-- an instruction the model gives no meaning -/
  | refused (r : Refusal)
deriving DecidableEq, Repr

/-- What a step or a write answers the host. -/
def Answer.ofState (x : Except Fault State) : Answer :=
  match x with
  | .ok s => .next s none
  | .error r => .fault r

/-- One interaction, one atomic transition (R455, D36). -/
def perform (i : Interaction) (s : State) : Answer :=
  match i with
  | .init (some initMem) => .next (s.busInit initMem).cpuInit none
  | .init none => .hostFailure
  | .busInit (some initMem) => .next (s.busInit initMem) none
  | .busInit none => .hostFailure
  | .cpuInit => .next s.cpuInit none
  | .load (some bytes) eramInit => .next (s.load bytes eramInit) none
  | .load none _ => .hostFailure
  | .unload => .next s.unload none
  | .step =>
    match Machine.step s with
    | .next t => .next t none
    | .fault r => .fault r
    | .refused r => .refused r
  | .busRead a =>
    match s.busRead a with
    | .ok v => .next s (some v)
    | .error r => .fault r
  | .busWrite a v => Answer.ofState (s.busWrite a v)
  | .postBoot => Answer.ofState s.postBoot
  | .observe => .next s none

end Sys2Proof.Machine
end

