-- ==== Sys2Proof/Safety.lean ====
section
/-! DEFINITION. The invariant of the machine, and when a run cannot fault: the terms the statements use. -/

namespace Sys2Proof.Machine

/-- What holds of a loaded cartridge: its arrays are canonical and within their sizes (R45, R46), the scheme is the
header's (R101), ROM bank bits 4..0 are not 0 (R46, R111), mode 0 has RAM bank 0 (R116), and a no-banking cartridge has no
external RAM (R106, D27). -/
def Cart.inv (ct : Cart) : Bool :=
  ct.image.cells.wf && ct.image.cells.keysIn (fun k => decide (k < ct.image.size)) &&
    ct.eram.wf && ct.eram.keysIn (fun k => decide (k < 0x8000)) &&
    ct.scheme == selectScheme ct.image &&
    ct.romBank.extractLsb' 0 5 != 0 &&
    (ct.mode == .largeRam || ct.ramBank == 0) &&
    (ct.scheme == .type1 || ct.eram == [])

/-- The invariant: F bits 3..0 are 0 (R34), the bus buffers are canonical and list only their own addresses (R42), and the
cartridge, if any, keeps `Cart.inv`. -/
def State.inv (s : State) : Bool :=
  s.f.extractLsb' 0 4 == 0 && s.ram.wf && s.ram.keysIn isStorageIndex && s.cart.all Cart.inv

/-- The image answers every address of both ROM windows, whatever the bank: 32 KiB without banking, 128 banks of 16 KiB with
type-1 banking (R104, R108, R114). -/
def Cart.complete (ct : Cart) : Bool :=
  match ct.scheme with
  | .noBanking => decide (0x8000 ≤ ct.image.size)
  | .type1 => decide (0x80 * 0x4000 ≤ ct.image.size)

/-- A cartridge is loaded and complete: no bus access can fault (R75, R114, R115). -/
def State.ready (s : State) : Bool :=
  match s.cart with
  | none => false
  | some ct => ct.complete

/-- A read of `a` answers a byte. -/
def State.readable (s : State) (a : Word) : Bool :=
  match s.busRead a with
  | .ok _ => true
  | .error _ => false

/-- The storage byte an address decodes to, if it is storage that a read gives back as written: two addresses with the same
place are the same byte (R82, R90, R120). -/
inductive Place where
  | ram (k : Nat)
  | eram (k : Nat)
  | ie
deriving DecidableEq, Repr

/-- The place of an address (R79 to R88, R113); none for the ROM windows, the I/O registers, the unmapped range, and the
external RAM window of a no-banking or absent cartridge. -/
def State.storagePlace (s : State) (a : Word) : Option Place :=
  match decodeAddr a with
  | .vram => some (.ram (storageIndex a))
  | .wram => some (.ram (storageIndex a))
  | .mirror => some (.ram (storageIndex a))
  | .oam => some (.ram (storageIndex a))
  | .hram => some (.ram (storageIndex a))
  | .ie => some .ie
  | .extRam =>
    match s.cart with
    | none => none
    | some ct =>
      match ct.scheme with
      | .noBanking => none
      | .type1 => some (.eram (ct.eramIndex a))
  | .romFixed => none
  | .romSwitch => none
  | .io => none
  | .unmapped => none

/-! ## The words of the statements -/

/-- The F byte with flags Z, N, H, C in bits 7, 6, 5, 4 and 0 in bits 3..0 (R33), written bit after bit. -/
def packFlags (z n h c : Bool) : Byte := BitVec.ofBool z ++ BitVec.ofBool n ++ BitVec.ofBool h ++ BitVec.ofBool c ++ 0#4

/-- F.Z (R33). -/
def State.zf (s : State) : Bool := s.f.getLsbD 7

/-- F.N (R33). -/
def State.nf (s : State) : Bool := s.f.getLsbD 6

/-- F.H (R33). -/
def State.hf (s : State) : Bool := s.f.getLsbD 5

/-- F.C (R33). -/
def State.cf (s : State) : Bool := s.f.getLsbD 4

/-- The condition cc, of the flags (R330). -/
def State.condHolds (s : State) (cc : Cond) : Prop :=
  match cc with
  | .nz => s.zf = false
  | .z => s.zf = true
  | .nc => s.cf = false
  | .c => s.cf = true

/-- The addresses of the three cartridge windows (R77, R78, R80). -/
def inCartWindow (a : Word) : Prop := a.toNat < 0x8000 ∨ (0xA000 ≤ a.toNat ∧ a.toNat < 0xC000)

/-- The image byte at offset `i`, or the model fault beyond the image (R103, R114). -/
def Image.byteAt (img : Image) (i : Nat) : Except Fault Byte :=
  if i < img.size then .ok (img.cells.get i) else .error (.cartReadOutOfImage i)

/-- The state with its cycle counter moved on by `n`. -/
def State.delayed (s : State) (n : Cycles) : State := { s with cyc := s.cyc + n }

/-- The state without what the RAM-enable bit holds. -/
def State.forgetRamEnable (s : State) : State := { s with cart := s.cart.map fun ct => { ct with ramEnable := false } }

/-- What `step` or `exec` answers, with a function applied to the next state. -/
def mapNext (g : State → State) (r : Result) : Result :=
  match r with
  | .next t => .next (g t)
  | .fault x => .fault x
  | .refused x => .refused x

/-! ## Where an instruction stores -/

/-- The bus addresses the instruction `i` stores a byte to, in order, when it runs in `s` (R202, R204, R207, R208, R210, R212,
R214 to R216, R220, R222, R285, R287, R336, R337, R341, R390, R423, R425). -/
def storesAt (i : Instr) (s : State) : List Word :=
  match i with
  | .ldIndBcA => [s.bc]
  | .ldIndA16Sp a16 => [a16, a16 + 1]
  | .ldIndDeA => [s.de]
  | .ldIndHlIncA => [s.hl]
  | .ldIndHlDecA => [s.hl]
  | .incIndHl => [s.hl]
  | .decIndHl => [s.hl]
  | .ldIndHlD8 _ => [s.hl]
  | .ldIndHlB => [s.hl]
  | .ldIndHlC => [s.hl]
  | .ldIndHlD => [s.hl]
  | .ldIndHlE => [s.hl]
  | .ldIndHlH => [s.hl]
  | .ldIndHlL => [s.hl]
  | .ldIndHlA => [s.hl]
  | .callNzA16 _ => if s.cond .nz then [s.sp - 2, s.sp - 2 + 1] else []
  | .pushBc => [s.sp - 2, s.sp - 2 + 1]
  | .rst00 => [s.sp - 2, s.sp - 2 + 1]
  | .callZA16 _ => if s.cond .z then [s.sp - 2, s.sp - 2 + 1] else []
  | .callA16 _ => [s.sp - 2, s.sp - 2 + 1]
  | .rst08 => [s.sp - 2, s.sp - 2 + 1]
  | .callNcA16 _ => if s.cond .nc then [s.sp - 2, s.sp - 2 + 1] else []
  | .pushDe => [s.sp - 2, s.sp - 2 + 1]
  | .rst10 => [s.sp - 2, s.sp - 2 + 1]
  | .callCA16 _ => if s.cond .c then [s.sp - 2, s.sp - 2 + 1] else []
  | .rst18 => [s.sp - 2, s.sp - 2 + 1]
  | .ldhIndA8A a8 => [highPage a8]
  | .ldIndCA => [highPage s.c]
  | .pushHl => [s.sp - 2, s.sp - 2 + 1]
  | .rst20 => [s.sp - 2, s.sp - 2 + 1]
  | .ldIndA16A a16 => [a16]
  | .rst28 => [s.sp - 2, s.sp - 2 + 1]
  | .pushAf => [s.sp - 2, s.sp - 2 + 1]
  | .rst30 => [s.sp - 2, s.sp - 2 + 1]
  | .rst38 => [s.sp - 2, s.sp - 2 + 1]
  | .rlcIndHl => [s.hl]
  | .rrcIndHl => [s.hl]
  | .rlIndHl => [s.hl]
  | .rrIndHl => [s.hl]
  | .slaIndHl => [s.hl]
  | .sraIndHl => [s.hl]
  | .swapIndHl => [s.hl]
  | .srlIndHl => [s.hl]
  | .res0IndHl => [s.hl]
  | .res1IndHl => [s.hl]
  | .res2IndHl => [s.hl]
  | .res3IndHl => [s.hl]
  | .res4IndHl => [s.hl]
  | .res5IndHl => [s.hl]
  | .res6IndHl => [s.hl]
  | .res7IndHl => [s.hl]
  | .set0IndHl => [s.hl]
  | .set1IndHl => [s.hl]
  | .set2IndHl => [s.hl]
  | .set3IndHl => [s.hl]
  | .set4IndHl => [s.hl]
  | .set5IndHl => [s.hl]
  | .set6IndHl => [s.hl]
  | .set7IndHl => [s.hl]
  | .prefixCb n => if operandField (fieldZ n) = .indHl ∧ fieldX n ≠ 1 then [s.hl] else []
  | _ => []

end Sys2Proof.Machine
end

