-- ==== Sys2Proof/Certificates/Slice0/Obligations.lean ====
section
/-! DEFINITION. The statements for the provers, one definition each; OBLIGATIONS.json lists them. The right sides are
written from the rules' own words (bits, digits, unbounded sums), not with the model's flag and result functions. -/

open Sys2Proof Sys2Proof.Machine

/-- Decode of encode, for every well-formed instruction (R153, R163, R167, R169, R170). -/
def Obligations.DecodeOfEncode : Prop :=
  ∀ (i : Instr) (rest : List Byte), WellFormed i → decode (encode i ++ rest) = .ok (i, rest)

/-- Encode of decode, on every byte sequence; no byte is dropped (R152, R153). -/
def Obligations.EncodeOfDecode : Prop :=
  (∀ (bytes : List Byte) (i : Instr) (rest : List Byte), decode bytes = .ok (i, rest) → WellFormed i ∧ encode i ++ rest = bytes) ∧
  ∀ (op b1 b2 : Byte) (rest : List Byte), ∃ i rest', decode (op :: b1 :: b2 :: rest) = .ok (i, rest')

/-- The length table (R167). -/
def Obligations.LengthFromFirstByte : Prop :=
  (∀ op : Byte,
    instrLength op =
      if op ∈ ([0x01, 0x11, 0x21, 0x31, 0x08, 0xC2, 0xC3, 0xC4, 0xCA, 0xCC, 0xCD, 0xD2, 0xD4, 0xDA, 0xDC, 0xEA, 0xFA] : List Byte) then 3
      else if op ∈ ([0xCB, 0x06, 0x0E, 0x16, 0x1E, 0x26, 0x2E, 0x36, 0x3E, 0xC6, 0xCE, 0xD6, 0xDE, 0xE6, 0xEE, 0xF6, 0xFE,
        0xE0, 0xF0, 0x18, 0x20, 0x28, 0x30, 0x38, 0xE8, 0xF8] : List Byte) then 2
      else 1) ∧
  ∀ (op b1 b2 : Byte) (rest : List Byte),
    ∃ i, decode (op :: b1 :: b2 :: rest) = .ok (i, (op :: b1 :: b2 :: rest).drop (instrLength op))

/-- Words taken from the opcode maps (R169, R170). -/
def Obligations.DecodingSanity : Prop :=
  decode [0x78] = .ok (.ldAB, []) ∧ decode [0x46] = .ok (.ldBIndHl, []) ∧ decode [0x36, 0x05] = .ok (.ldIndHlD8 0x05, []) ∧
  decode [0x21, 0x34, 0x12] = .ok (.ldHlD16 0x1234, []) ∧ decode [0x08, 0x00, 0xC1] = .ok (.ldIndA16Sp 0xC100, []) ∧
  decode [0xF5] = .ok (.pushAf, []) ∧ decode [0x8E] = .ok (.adcAIndHl, []) ∧ decode [0xFE, 0x3C] = .ok (.cpD8 0x3C, []) ∧
  decode [0x35] = .ok (.decIndHl, []) ∧ decode [0x39] = .ok (.addHlSp, []) ∧ decode [0xF8, 0x02] = .ok (.ldHlSpE8 0x02, []) ∧
  decode [0x27] = .ok (.daa, []) ∧ decode [0xD4, 0x00, 0x40] = .ok (.callNcA16 0x4000, []) ∧ decode [0xEF] = .ok (.rst28, []) ∧
  decode [0x76] = .ok (.halt, []) ∧ decode [0xD3] = .ok (.undefD3, []) ∧ decode [0xCB, 0x37] = .ok (.swapA, []) ∧
  decode [0xCB, 0x7C] = .ok (.bit7H, []) ∧ decode [0xCB, 0x86] = .ok (.res0IndHl, []) ∧ decode [0xCB, 0xFF] = .ok (.set7A, [])

/-- PREFIX CB (R163): one step, the extended instruction, its total duration charged. -/
def Obligations.PrefixSlotRunsTheExtendedInstruction : Prop :=
  (∀ n b2 : Byte, decodeInstr 0xCB n b2 = decodeExtended n ∧ decodePrimary 0xCB n b2 = .prefixCb n) ∧
  (∀ (n : Byte) (s : State), exec (.prefixCb n) s = exec (decodeExtended n) s) ∧
  ∀ (n : Byte) (s : State), s.readable s.hl = true → ∃ t, exec (.prefixCb n) s = .next t ∧ exec (decodeExtended n) s = .next t

/-- LD r,r' (R200). -/
def Obligations.LoadRegisterFromRegister : Prop :=
  (∀ (dst src : Reg8) (b1 b2 : Byte), decodeInstr (0b01#2 ++ regCode dst ++ regCode src) b1 b2 = Form.ldReg dst src) ∧
  ∀ (dst src : Reg8) (s : State),
    exec (Form.ldReg dst src) s = .next { s.setReg dst (s.reg src) with pc := s.pc + 1, cyc := s.cyc + 1 }

/-- LD r,(HL) (R201). -/
def Obligations.LoadRegisterFromHl : Prop :=
  (∀ (dst : Reg8) (b1 b2 : Byte), decodeInstr (0b01#2 ++ regCode dst ++ 0b110#3) b1 b2 = Form.ldFromHl dst) ∧
  (∀ (dst : Reg8) (s : State) (v : Byte), s.busRead s.hl = .ok v →
    exec (Form.ldFromHl dst) s = .next { s.setReg dst v with pc := s.pc + 1, cyc := s.cyc + 2 }) ∧
  ∀ (dst : Reg8) (s : State) (r : Fault), s.busRead s.hl = .error r → exec (Form.ldFromHl dst) s = .fault r

/-- LD (HL),r (R202); `deliver` is the bus write of the region statements. -/
def Obligations.StoreRegisterAtHl : Prop :=
  (∀ (src : Reg8) (b1 b2 : Byte), decodeInstr (0b01110#5 ++ regCode src) b1 b2 = Form.ldToHl src) ∧
  (∀ (src : Reg8) (s : State), s.windowOpen s.hl = true →
    exec (Form.ldToHl src) s = .next { s.deliver s.hl (s.reg src) with pc := s.pc + 1, cyc := s.cyc + 2 }) ∧
  ∀ (src : Reg8) (s : State), s.windowOpen s.hl = false → exec (Form.ldToHl src) s = .fault .noCartridge

/-- LD r,d8 and LD (HL),d8 (R203, R204). -/
def Obligations.LoadImmediate : Prop :=
  (∀ (dst : Reg8) (d8 b2 : Byte), decodeInstr (0b00#2 ++ regCode dst ++ 0b110#3) d8 b2 = Form.ldRegImm dst d8) ∧
  (∀ d8 b2 : Byte, decodeInstr 0x36 d8 b2 = .ldIndHlD8 d8) ∧
  (∀ (dst : Reg8) (d8 : Byte) (s : State),
    exec (Form.ldRegImm dst d8) s = .next { s.setReg dst d8 with pc := s.pc + 2, cyc := s.cyc + 2 }) ∧
  (∀ (d8 : Byte) (s : State), s.windowOpen s.hl = true →
    exec (.ldIndHlD8 d8) s = .next { s.deliver s.hl d8 with pc := s.pc + 2, cyc := s.cyc + 3 }) ∧
  ∀ (d8 : Byte) (s : State), s.windowOpen s.hl = false → exec (.ldIndHlD8 d8) s = .fault .noCartridge

/-- The A loads (R205, R206, R209, R211, R213). The 16-bit operand is byte 2 ++ byte 1. -/
def Obligations.LoadAFromMemory : Prop :=
  (∀ lo hi : Byte, decodeInstr 0x0A lo hi = .ldAIndBc ∧ decodeInstr 0x1A lo hi = .ldAIndDe ∧
    decodeInstr 0xFA lo hi = .ldAIndA16 (hi ++ lo) ∧ decodeInstr 0xF0 lo hi = .ldhAIndA8 lo ∧ decodeInstr 0xF2 lo hi = .ldAIndC) ∧
  (∀ (s : State) (a16 : Word) (a8 v : Byte),
    (s.busRead (s.b ++ s.c) = .ok v → exec .ldAIndBc s = .next { s with a := v, pc := s.pc + 1, cyc := s.cyc + 2 }) ∧
    (s.busRead (s.d ++ s.e) = .ok v → exec .ldAIndDe s = .next { s with a := v, pc := s.pc + 1, cyc := s.cyc + 2 }) ∧
    (s.busRead a16 = .ok v → exec (.ldAIndA16 a16) s = .next { s with a := v, pc := s.pc + 3, cyc := s.cyc + 4 }) ∧
    (s.busRead (0xFF00 + a8.setWidth 16) = .ok v →
      exec (.ldhAIndA8 a8) s = .next { s with a := v, pc := s.pc + 2, cyc := s.cyc + 3 }) ∧
    (s.busRead (0xFF00 + s.c.setWidth 16) = .ok v →
      exec .ldAIndC s = .next { s with a := v, pc := s.pc + 1, cyc := s.cyc + 2 })) ∧
  ∀ (s : State) (a16 : Word) (r : Fault),
    (s.busRead (s.b ++ s.c) = .error r → exec .ldAIndBc s = .fault r) ∧
    (s.busRead (s.d ++ s.e) = .error r → exec .ldAIndDe s = .fault r) ∧
    (s.busRead a16 = .error r → exec (.ldAIndA16 a16) s = .fault r)

/-- The A stores (R207, R208, R210, R212, R214). -/
def Obligations.StoreAToMemory : Prop :=
  (∀ lo hi : Byte, decodeInstr 0x02 lo hi = .ldIndBcA ∧ decodeInstr 0x12 lo hi = .ldIndDeA ∧
    decodeInstr 0xEA lo hi = .ldIndA16A (hi ++ lo) ∧ decodeInstr 0xE0 lo hi = .ldhIndA8A lo ∧ decodeInstr 0xE2 lo hi = .ldIndCA) ∧
  (∀ (s : State) (a16 : Word),
    (s.windowOpen (s.b ++ s.c) = true →
      exec .ldIndBcA s = .next { s.deliver (s.b ++ s.c) s.a with pc := s.pc + 1, cyc := s.cyc + 2 }) ∧
    (s.windowOpen (s.d ++ s.e) = true →
      exec .ldIndDeA s = .next { s.deliver (s.d ++ s.e) s.a with pc := s.pc + 1, cyc := s.cyc + 2 }) ∧
    (s.windowOpen a16 = true →
      exec (.ldIndA16A a16) s = .next { s.deliver a16 s.a with pc := s.pc + 3, cyc := s.cyc + 4 }) ∧
    (s.windowOpen (s.b ++ s.c) = false → exec .ldIndBcA s = .fault .noCartridge) ∧
    (s.windowOpen (s.d ++ s.e) = false → exec .ldIndDeA s = .fault .noCartridge) ∧
    (s.windowOpen a16 = false → exec (.ldIndA16A a16) s = .fault .noCartridge)) ∧
  ∀ (s : State) (a8 : Byte),
    exec (.ldhIndA8A a8) s =
      .next { s.deliver (0xFF00 + a8.setWidth 16) s.a with pc := s.pc + 2, cyc := s.cyc + 3 } ∧
    exec .ldIndCA s = .next { s.deliver (0xFF00 + s.c.setWidth 16) s.a with pc := s.pc + 1, cyc := s.cyc + 2 }

/-- The post-increment and post-decrement forms (R215 to R218); HL is written whole, its two halves from the moved value. -/
def Obligations.TransferAThroughHlAndMoveHl : Prop :=
  (∀ b1 b2 : Byte, decodeInstr 0x22 b1 b2 = .ldIndHlIncA ∧ decodeInstr 0x32 b1 b2 = .ldIndHlDecA ∧
    decodeInstr 0x2A b1 b2 = .ldAIndHlInc ∧ decodeInstr 0x3A b1 b2 = .ldAIndHlDec) ∧
  (∀ (s : State) (hl : Word), hl = s.h ++ s.l →
    (s.windowOpen hl = true →
      exec .ldIndHlIncA s =
        .next { s.deliver hl s.a with
                h := (hl + 1).extractLsb' 8 8, l := (hl + 1).extractLsb' 0 8, pc := s.pc + 1, cyc := s.cyc + 2 } ∧
      exec .ldIndHlDecA s =
        .next { s.deliver hl s.a with
                h := (hl - 1).extractLsb' 8 8, l := (hl - 1).extractLsb' 0 8, pc := s.pc + 1, cyc := s.cyc + 2 }) ∧
    (s.windowOpen hl = false → exec .ldIndHlIncA s = .fault .noCartridge ∧ exec .ldIndHlDecA s = .fault .noCartridge) ∧
    (∀ v, s.busRead hl = .ok v →
      exec .ldAIndHlInc s =
        .next { s with
                a := v, h := (hl + 1).extractLsb' 8 8, l := (hl + 1).extractLsb' 0 8, pc := s.pc + 1, cyc := s.cyc + 2 } ∧
      exec .ldAIndHlDec s =
        .next { s with
                a := v, h := (hl - 1).extractLsb' 8 8, l := (hl - 1).extractLsb' 0 8, pc := s.pc + 1, cyc := s.cyc + 2 }) ∧
    ∀ r, s.busRead hl = .error r → exec .ldAIndHlInc s = .fault r ∧ exec .ldAIndHlDec s = .fault r)

/-- LD rr,d16 (R219), LD (a16),SP (R220), LD SP,HL (R221). -/
def Obligations.SixteenBitLoadsAndStoreOfSp : Prop :=
  (∀ (rr : Pair) (lo hi : Byte), decodeInstr (0b00#2 ++ pairCode rr ++ 0b0001#4) lo hi = Form.ldPair rr (hi ++ lo)) ∧
  (∀ lo hi : Byte, decodeInstr 0x08 lo hi = .ldIndA16Sp (hi ++ lo) ∧ decodeInstr 0xF9 lo hi = .ldSpHl) ∧
  (∀ (rr : Pair) (d16 : Word) (s : State),
    exec (Form.ldPair rr d16) s = .next { s.setPair rr d16 with pc := s.pc + 3, cyc := s.cyc + 3 }) ∧
  (∀ s : State, exec .ldSpHl s = .next { s with sp := s.h ++ s.l, pc := s.pc + 1, cyc := s.cyc + 2 }) ∧
  (∀ (a16 : Word) (s : State), s.windowOpen a16 = true → s.windowOpen (a16 + 1) = true →
    exec (.ldIndA16Sp a16) s =
      .next { (s.deliver a16 (s.sp.extractLsb' 0 8)).deliver (a16 + 1) (s.sp.extractLsb' 8 8) with
              pc := s.pc + 3, cyc := s.cyc + 5 }) ∧
  ∀ (a16 : Word) (s : State), s.windowOpen a16 = false ∨ s.windowOpen (a16 + 1) = false →
    exec (.ldIndA16Sp a16) s = .fault .noCartridge

/-- PUSH qq (R222). -/
def Obligations.PushPair : Prop :=
  (∀ (qq : StackPair) (b1 b2 : Byte), decodeInstr (0b11#2 ++ stackPairCode qq ++ 0b0101#4) b1 b2 = Form.push qq) ∧
  (∀ (qq : StackPair) (s : State), s.windowOpen (s.sp - 2) = true → s.windowOpen (s.sp - 1) = true →
    exec (Form.push qq) s =
      .next { (s.deliver (s.sp - 2) ((s.stackPair qq).extractLsb' 0 8)).deliver (s.sp - 1) ((s.stackPair qq).extractLsb' 8 8) with
              sp := s.sp - 2, pc := s.pc + 1, cyc := s.cyc + 4 }) ∧
  ∀ (qq : StackPair) (s : State), s.windowOpen (s.sp - 2) = false ∨ s.windowOpen (s.sp - 1) = false →
    exec (Form.push qq) s = .fault .noCartridge

/-- POP qq (R223); the PUSH and POP round trip the rule names is StackRoundTrip. -/
def Obligations.PopPair : Prop :=
  (∀ (qq : StackPair) (b1 b2 : Byte), decodeInstr (0b11#2 ++ stackPairCode qq ++ 0b0001#4) b1 b2 = Form.pop qq) ∧
  (∀ (s : State) (lo hi : Byte), s.busRead s.sp = .ok lo → s.busRead (s.sp + 1) = .ok hi →
    exec .popBc s = .next { s with b := hi, c := lo, sp := s.sp + 2, pc := s.pc + 1, cyc := s.cyc + 3 } ∧
    exec .popDe s = .next { s with d := hi, e := lo, sp := s.sp + 2, pc := s.pc + 1, cyc := s.cyc + 3 } ∧
    exec .popHl s = .next { s with h := hi, l := lo, sp := s.sp + 2, pc := s.pc + 1, cyc := s.cyc + 3 } ∧
    exec .popAf s =
      .next { s with a := hi, f := lo.extractLsb' 4 4 ++ 0b0000#4, sp := s.sp + 2, pc := s.pc + 1, cyc := s.cyc + 3 }) ∧
  (∀ (qq : StackPair) (s : State) (r : Fault), s.busRead s.sp = .error r → exec (Form.pop qq) s = .fault r) ∧
  ∀ (qq : StackPair) (s : State) (lo : Byte) (r : Fault), s.busRead s.sp = .ok lo → s.busRead (s.sp + 1) = .error r →
    exec (Form.pop qq) s = .fault r

/-- ADD and ADC (R251, R260 to R265). -/
def Obligations.AddAndAddWithCarry : Prop :=
  (∀ (o : Operand8) (b1 b2 : Byte), decodeInstr (0b10000#5 ++ operandCode o) b1 b2 = Form.alu .add o ∧
    decodeInstr (0b10001#5 ++ operandCode o) b1 b2 = Form.alu .adc o) ∧
  (∀ d8 b2 : Byte, decodeInstr 0xC6 d8 b2 = .addAD8 d8 ∧ decodeInstr 0xCE d8 b2 = .adcAD8 d8) ∧
  (∀ (s : State) (op : AluOp) (cin : Bool), (op = .add ∧ cin = false) ∨ (op = .adc ∧ cin = s.cf) →
    ∀ v r f : Byte, r.toNat = (s.a.toNat + v.toNat + cin.toNat) % 256 →
      f = packFlags (decide (r = 0)) false (decide (0x0F < s.a.toNat % 16 + v.toNat % 16 + cin.toNat))
        (decide (0xFF < s.a.toNat + v.toNat + cin.toNat)) →
      (∀ q, s.reg q = v → exec (Form.alu op (.reg q)) s = .next { s with a := r, f := f, pc := s.pc + 1, cyc := s.cyc + 1 }) ∧
      (s.busRead s.hl = .ok v → exec (Form.alu op .indHl) s = .next { s with a := r, f := f, pc := s.pc + 1, cyc := s.cyc + 2 }) ∧
      exec (Form.aluImm op v) s = .next { s with a := r, f := f, pc := s.pc + 2, cyc := s.cyc + 2 }) ∧
  ∀ (s : State) (r : Fault), s.busRead s.hl = .error r →
    exec .addAIndHl s = .fault r ∧ exec .adcAIndHl s = .fault r

/-- SUB, SBC and CP (R252, R266 to R271, R281 to R283). -/
def Obligations.SubtractWithBorrowAndCompare : Prop :=
  (∀ (o : Operand8) (b1 b2 : Byte), decodeInstr (0b10010#5 ++ operandCode o) b1 b2 = Form.alu .sub o ∧
    decodeInstr (0b10011#5 ++ operandCode o) b1 b2 = Form.alu .sbc o ∧
    decodeInstr (0b10111#5 ++ operandCode o) b1 b2 = Form.alu .cp o) ∧
  (∀ d8 b2 : Byte, decodeInstr 0xD6 d8 b2 = .subD8 d8 ∧ decodeInstr 0xDE d8 b2 = .sbcAD8 d8 ∧ decodeInstr 0xFE d8 b2 = .cpD8 d8) ∧
  (∀ (s : State) (op : AluOp) (cin : Bool),
    (op = .sub ∧ cin = false) ∨ (op = .sbc ∧ cin = s.cf) ∨ (op = .cp ∧ cin = false) →
    ∀ v r f x : Byte, (r.toNat : Int) = ((s.a.toNat : Int) - v.toNat - cin.toNat) % 256 →
      f = packFlags (decide (r = 0)) true (decide (s.a.toNat % 16 < v.toNat % 16 + cin.toNat))
        (decide (s.a.toNat < v.toNat + cin.toNat)) →
      x = (if op = .cp then s.a else r) →
      (∀ q, s.reg q = v → exec (Form.alu op (.reg q)) s = .next { s with a := x, f := f, pc := s.pc + 1, cyc := s.cyc + 1 }) ∧
      (s.busRead s.hl = .ok v → exec (Form.alu op .indHl) s = .next { s with a := x, f := f, pc := s.pc + 1, cyc := s.cyc + 2 }) ∧
      exec (Form.aluImm op v) s = .next { s with a := x, f := f, pc := s.pc + 2, cyc := s.cyc + 2 }) ∧
  ∀ (s : State) (r : Fault), s.busRead s.hl = .error r →
    exec .subIndHl s = .fault r ∧ exec .sbcAIndHl s = .fault r ∧ exec .cpIndHl s = .fault r

/-- AND, XOR and OR (R253 to R255, R272 to R280), bit by bit. -/
def Obligations.LogicalOperations : Prop :=
  (∀ (o : Operand8) (b1 b2 : Byte), decodeInstr (0b10100#5 ++ operandCode o) b1 b2 = Form.alu .and o ∧
    decodeInstr (0b10101#5 ++ operandCode o) b1 b2 = Form.alu .xor o ∧
    decodeInstr (0b10110#5 ++ operandCode o) b1 b2 = Form.alu .or o) ∧
  (∀ d8 b2 : Byte, decodeInstr 0xE6 d8 b2 = .andD8 d8 ∧ decodeInstr 0xEE d8 b2 = .xorD8 d8 ∧ decodeInstr 0xF6 d8 b2 = .orD8 d8) ∧
  (∀ (s : State) (op : AluOp) (v r f : Byte),
    (op = .and ∧ (∀ k, k < 8 → r.getLsbD k = (s.a.getLsbD k && v.getLsbD k)) ∧ f = packFlags (decide (r = 0)) false true false) ∨
    (op = .xor ∧ (∀ k, k < 8 → r.getLsbD k = (s.a.getLsbD k ^^ v.getLsbD k)) ∧ f = packFlags (decide (r = 0)) false false false) ∨
    (op = .or ∧ (∀ k, k < 8 → r.getLsbD k = (s.a.getLsbD k || v.getLsbD k)) ∧ f = packFlags (decide (r = 0)) false false false) →
      (∀ q, s.reg q = v → exec (Form.alu op (.reg q)) s = .next { s with a := r, f := f, pc := s.pc + 1, cyc := s.cyc + 1 }) ∧
      (s.busRead s.hl = .ok v → exec (Form.alu op .indHl) s = .next { s with a := r, f := f, pc := s.pc + 1, cyc := s.cyc + 2 }) ∧
      exec (Form.aluImm op v) s = .next { s with a := r, f := f, pc := s.pc + 2, cyc := s.cyc + 2 }) ∧
  ∀ (s : State) (r : Fault), s.busRead s.hl = .error r →
    exec .andIndHl s = .fault r ∧ exec .xorIndHl s = .fault r ∧ exec .orIndHl s = .fault r

/-- INC and DEC (R256, R257, R284 to R287). -/
def Obligations.IncrementAndDecrementByte : Prop :=
  (∀ (o : Operand8) (b1 b2 : Byte), decodeInstr (0b00#2 ++ operandCode o ++ 0b100#3) b1 b2 = Form.inc o ∧
    decodeInstr (0b00#2 ++ operandCode o ++ 0b101#3) b1 b2 = Form.dec o) ∧
  (∀ (s : State) (v up down fUp fDown : Byte), up.toNat = (v.toNat + 1) % 256 → down.toNat = (v.toNat + 255) % 256 →
    fUp = packFlags (decide (up = 0)) false (decide (v.toNat % 16 = 0x0F)) s.cf →
    fDown = packFlags (decide (down = 0)) true (decide (v.toNat % 16 = 0)) s.cf →
    (∀ q, s.reg q = v →
      exec (Form.inc (.reg q)) s = .next { s.setReg q up with f := fUp, pc := s.pc + 1, cyc := s.cyc + 1 } ∧
      exec (Form.dec (.reg q)) s = .next { s.setReg q down with f := fDown, pc := s.pc + 1, cyc := s.cyc + 1 }) ∧
    (s.busRead s.hl = .ok v →
      exec .incIndHl s = .next { s.deliver s.hl up with f := fUp, pc := s.pc + 1, cyc := s.cyc + 3 } ∧
      exec .decIndHl s = .next { s.deliver s.hl down with f := fDown, pc := s.pc + 1, cyc := s.cyc + 3 })) ∧
  ∀ (s : State) (r : Fault), s.busRead s.hl = .error r → exec .incIndHl s = .fault r ∧ exec .decIndHl s = .fault r

/-- ADD HL,rr (R290). -/
def Obligations.AddToHl : Prop :=
  (∀ (rr : Pair) (b1 b2 : Byte), decodeInstr (0b00#2 ++ pairCode rr ++ 0b1001#4) b1 b2 = Form.addHl rr) ∧
  ∀ (rr : Pair) (s : State) (a b r : Word), a = s.h ++ s.l → b = s.pair rr → r.toNat = (a.toNat + b.toNat) % 65536 →
    exec (Form.addHl rr) s =
      .next { s with
              h := r.extractLsb' 8 8, l := r.extractLsb' 0 8,
              f := packFlags s.zf false (decide (0x0FFF < a.toNat % 0x1000 + b.toNat % 0x1000)) (decide (0xFFFF < a.toNat + b.toNat)),
              pc := s.pc + 1, cyc := s.cyc + 2 }

/-- INC rr and DEC rr (R291, R292). -/
def Obligations.IncrementAndDecrementPair : Prop :=
  (∀ (rr : Pair) (b1 b2 : Byte), decodeInstr (0b00#2 ++ pairCode rr ++ 0b0011#4) b1 b2 = Form.incPair rr ∧
    decodeInstr (0b00#2 ++ pairCode rr ++ 0b1011#4) b1 b2 = Form.decPair rr) ∧
  ∀ (rr : Pair) (s : State) (up down : Word), up.toNat = ((s.pair rr).toNat + 1) % 65536 →
    down.toNat = ((s.pair rr).toNat + 65535) % 65536 →
    exec (Form.incPair rr) s = .next { s.setPair rr up with pc := s.pc + 1, cyc := s.cyc + 2 } ∧
    exec (Form.decPair rr) s = .next { s.setPair rr down with pc := s.pc + 1, cyc := s.cyc + 2 }

/-- ADD SP,e8 and LD HL,SP+e8 (R293 to R295). -/
def Obligations.StackRelativeAdjust : Prop :=
  (∀ e8 b2 : Byte, decodeInstr 0xE8 e8 b2 = .addSpE8 e8 ∧ decodeInstr 0xF8 e8 b2 = .ldHlSpE8 e8) ∧
  ∀ (s : State) (e8 f : Byte) (r : Word),
    (r.toNat : Int) = ((s.sp.toNat : Int) + (if e8.toNat < 0x80 then (e8.toNat : Int) else (e8.toNat : Int) - 256)) % 65536 →
    f = packFlags false false (decide (0x0F < s.sp.toNat % 16 + e8.toNat % 16)) (decide (0xFF < s.sp.toNat % 256 + e8.toNat)) →
    exec (.addSpE8 e8) s = .next { s with sp := r, f := f, pc := s.pc + 2, cyc := s.cyc + 4 } ∧
    exec (.ldHlSpE8 e8) s =
      .next { s with h := r.extractLsb' 8 8, l := r.extractLsb' 0 8, f := f, pc := s.pc + 2, cyc := s.cyc + 3 }

/-- The accumulator rotates (R310 to R313), written bit by bit: Z is 0 even for a zero result. -/
def Obligations.AccumulatorRotates : Prop :=
  (∀ b1 b2 : Byte, decodeInstr 0x07 b1 b2 = .rlca ∧ decodeInstr 0x0F b1 b2 = .rrca ∧ decodeInstr 0x17 b1 b2 = .rla ∧
    decodeInstr 0x1F b1 b2 = .rra) ∧
  ∀ s : State,
    exec .rlca s =
      .next { s with
              a := s.a.extractLsb' 0 7 ++ s.a.extractLsb' 7 1, f := packFlags false false false (s.a.getLsbD 7),
              pc := s.pc + 1, cyc := s.cyc + 1 } ∧
    exec .rrca s =
      .next { s with
              a := s.a.extractLsb' 0 1 ++ s.a.extractLsb' 1 7, f := packFlags false false false (s.a.getLsbD 0),
              pc := s.pc + 1, cyc := s.cyc + 1 } ∧
    exec .rla s =
      .next { s with
              a := s.a.extractLsb' 0 7 ++ BitVec.ofBool s.cf, f := packFlags false false false (s.a.getLsbD 7),
              pc := s.pc + 1, cyc := s.cyc + 1 } ∧
    exec .rra s =
      .next { s with
              a := BitVec.ofBool s.cf ++ s.a.extractLsb' 1 7, f := packFlags false false false (s.a.getLsbD 0),
              pc := s.pc + 1, cyc := s.cyc + 1 }

/-- DAA (R314), in the pseudocode's steps, and the equivalent form the rule gives for an addition. -/
def Obligations.DecimalAdjust : Prop :=
  (∀ b1 b2 : Byte, decodeInstr 0x27 b1 b2 = .daa) ∧
  (∀ (s : State) (low high : Nat) (r : Byte), s.nf = false →
    low = (if s.hf = true ∨ 9 < s.a.toNat % 16 then 6 else 0) →
    high = (if s.cf = true ∨ 0x9F < s.a.toNat + low then 0x60 else 0) →
    r.toNat = (s.a.toNat + low + high) % 256 →
    high = (if s.cf = true ∨ 0x99 < s.a.toNat then 0x60 else 0) ∧
    exec .daa s =
      .next { s with
              a := r, f := packFlags (decide (r = 0)) false false (s.cf || decide (0xFF < s.a.toNat + low + high)),
              pc := s.pc + 1, cyc := s.cyc + 1 }) ∧
  ∀ (s : State) (r : Byte), s.nf = true →
    (r.toNat : Int) = ((s.a.toNat : Int) - (if s.hf = true then 6 else 0) - (if s.cf = true then 0x60 else 0)) % 256 →
    exec .daa s =
      .next { s with a := r, f := packFlags (decide (r = 0)) true false s.cf, pc := s.pc + 1, cyc := s.cyc + 1 }

/-- CPL, SCF, CCF (R315 to R317). -/
def Obligations.ComplementAndCarryFlags : Prop :=
  (∀ b1 b2 : Byte, decodeInstr 0x2F b1 b2 = .cpl ∧ decodeInstr 0x37 b1 b2 = .scf ∧ decodeInstr 0x3F b1 b2 = .ccf) ∧
  ∀ s : State,
    (∀ r : Byte, r.toNat = 255 - s.a.toNat →
      exec .cpl s = .next { s with a := r, f := packFlags s.zf true true s.cf, pc := s.pc + 1, cyc := s.cyc + 1 }) ∧
    exec .scf s = .next { s with f := packFlags s.zf false false true, pc := s.pc + 1, cyc := s.cyc + 1 } ∧
    exec .ccf s = .next { s with f := packFlags s.zf false false (!s.cf), pc := s.pc + 1, cyc := s.cyc + 1 }

/-- The jumps (R331 to R335); no memory is read. -/
def Obligations.JumpsAndRelativeJumps : Prop :=
  (∀ (cc : Cond) (lo hi : Byte), decodeInstr 0xC3 lo hi = .jpA16 (hi ++ lo) ∧
    decodeInstr (0b110#3 ++ condCode cc ++ 0b010#3) lo hi = Form.jpCc cc (hi ++ lo) ∧ decodeInstr 0xE9 lo hi = .jpHl ∧
    decodeInstr 0x18 lo hi = .jrE8 lo ∧ decodeInstr (0b001#3 ++ condCode cc ++ 0b000#3) lo hi = Form.jrCc cc lo) ∧
  ∀ (s : State) (cc : Cond) (a16 : Word) (e8 : Byte) (target : Word),
    (target.toNat : Int) =
      ((s.pc.toNat : Int) + 2 + (if e8.toNat < 0x80 then (e8.toNat : Int) else (e8.toNat : Int) - 256)) % 65536 →
    exec (.jpA16 a16) s = .next { s with pc := a16, cyc := s.cyc + 4 } ∧
    exec .jpHl s = .next { s with pc := s.h ++ s.l, cyc := s.cyc + 1 } ∧
    exec (.jrE8 e8) s = .next { s with pc := target, cyc := s.cyc + 3 } ∧
    (s.condHolds cc →
      exec (Form.jpCc cc a16) s = .next { s with pc := a16, cyc := s.cyc + 4 } ∧
      exec (Form.jrCc cc e8) s = .next { s with pc := target, cyc := s.cyc + 3 }) ∧
    (¬ s.condHolds cc →
      exec (Form.jpCc cc a16) s = .next { s with pc := s.pc + 3, cyc := s.cyc + 3 } ∧
      exec (Form.jrCc cc e8) s = .next { s with pc := s.pc + 2, cyc := s.cyc + 2 })

/-- CALL, CALL cc and RST (R336, R337, R341). -/
def Obligations.CallsAndRestarts : Prop :=
  (∀ (cc : Cond) (lo hi : Byte), decodeInstr 0xCD lo hi = .callA16 (hi ++ lo) ∧
    decodeInstr (0b110#3 ++ condCode cc ++ 0b100#3) lo hi = Form.callCc cc (hi ++ lo)) ∧
  (∀ (y : BitVec 3) (b1 b2 : Byte), decodeInstr (0b11#2 ++ y ++ 0b111#3) b1 b2 = Form.rst y) ∧
  (∀ (s : State) (cc : Cond) (a16 : Word) (y : BitVec 3),
    (s.windowOpen (s.sp - 2) = true → s.windowOpen (s.sp - 1) = true →
      exec (.callA16 a16) s =
        .next { (s.deliver (s.sp - 2) ((s.pc + 3).extractLsb' 0 8)).deliver (s.sp - 1) ((s.pc + 3).extractLsb' 8 8) with
                sp := s.sp - 2, pc := a16, cyc := s.cyc + 6 } ∧
      (s.condHolds cc → exec (Form.callCc cc a16) s =
        .next { (s.deliver (s.sp - 2) ((s.pc + 3).extractLsb' 0 8)).deliver (s.sp - 1) ((s.pc + 3).extractLsb' 8 8) with
                sp := s.sp - 2, pc := a16, cyc := s.cyc + 6 }) ∧
      exec (Form.rst y) s =
        .next { (s.deliver (s.sp - 2) ((s.pc + 1).extractLsb' 0 8)).deliver (s.sp - 1) ((s.pc + 1).extractLsb' 8 8) with
                sp := s.sp - 2, pc := BitVec.ofNat 16 (y.toNat * 8), cyc := s.cyc + 4 }) ∧
    (¬ s.condHolds cc → exec (Form.callCc cc a16) s = .next { s with pc := s.pc + 3, cyc := s.cyc + 3 })) ∧
  ∀ (s : State) (cc : Cond) (a16 : Word) (y : BitVec 3),
    s.windowOpen (s.sp - 2) = false ∨ s.windowOpen (s.sp - 1) = false →
      exec (.callA16 a16) s = .fault .noCartridge ∧ exec (Form.rst y) s = .fault .noCartridge ∧
      (s.condHolds cc → exec (Form.callCc cc a16) s = .fault .noCartridge)

/-- RET, RET cc and RETI (R338 to R340). -/
def Obligations.Returns : Prop :=
  (∀ (cc : Cond) (b1 b2 : Byte), decodeInstr 0xC9 b1 b2 = .ret ∧ decodeInstr 0xD9 b1 b2 = .reti ∧
    decodeInstr (0b110#3 ++ condCode cc ++ 0b000#3) b1 b2 = Form.retCc cc) ∧
  (∀ (s : State) (cc : Cond) (lo hi : Byte), s.busRead s.sp = .ok lo → s.busRead (s.sp + 1) = .ok hi →
    exec .ret s = .next { s with pc := hi ++ lo, sp := s.sp + 2, cyc := s.cyc + 4 } ∧
    exec .reti s = .next { s with pc := hi ++ lo, sp := s.sp + 2, cyc := s.cyc + 4 } ∧
    (s.condHolds cc → exec (Form.retCc cc) s = .next { s with pc := hi ++ lo, sp := s.sp + 2, cyc := s.cyc + 5 })) ∧
  (∀ (s : State) (cc : Cond), ¬ s.condHolds cc → exec (Form.retCc cc) s = .next { s with pc := s.pc + 1, cyc := s.cyc + 2 }) ∧
  ∀ (s : State) (cc : Cond) (r : Fault),
    s.busRead s.sp = .error r ∨ (s.readable s.sp = true ∧ s.busRead (s.sp + 1) = .error r) →
    exec .ret s = .fault r ∧ exec .reti s = .fault r ∧ (s.condHolds cc → exec (Form.retCc cc) s = .fault r)

/-- NOP, STOP, DI, EI (R370, R372 to R374): STOP is one byte, and no interrupt state exists. -/
def Obligations.NopStopAndInterruptEnables : Prop :=
  (∀ b1 b2 : Byte, decodeInstr 0x00 b1 b2 = .nop ∧ decodeInstr 0x10 b1 b2 = .stop ∧ decodeInstr 0xF3 b1 b2 = .di ∧
    decodeInstr 0xFB b1 b2 = .ei) ∧ instrLength 0x10 = 1 ∧
  ∀ (s : State) (i : Instr), i = .nop ∨ i = .stop ∨ i = .di ∨ i = .ei →
    exec i s = .next { s with pc := s.pc + 1, cyc := s.cyc + 1 }

/-- HALT under this hardware's policy (R371). How the other policy's stuck outcome is coded is the model's reading, log entry 3, and no part of this statement. -/
def Obligations.HaltIsOneCycle : Prop :=
  (∀ b1 b2 : Byte, decodeInstr 0x76 b1 b2 = .halt) ∧
  ∀ s : State, exec .halt s = .next { s with pc := s.pc + 1, cyc := s.cyc + 1 }

/-- The undefined primary opcodes (R165, R375), under both policies. -/
def Obligations.UndefinedOpcodes : Prop :=
  (∀ (u : UndefSlot) (b1 b2 : Byte), decodeInstr (undefCode u) b1 b2 = Form.undef u) ∧
  (∀ op : Byte, op ∈ ([0xD3, 0xDB, 0xDD, 0xE3, 0xE4, 0xEB, 0xEC, 0xED, 0xF4, 0xFC, 0xFD] : List Byte) ↔
    ∃ u, op = undefCode u) ∧
  (∀ (u : UndefSlot) (s : State), exec (Form.undef u) s = .next { s with pc := s.pc + 1, cyc := s.cyc + 1 }) ∧
  ∀ (op : Byte) (s : State), undefUnder .fault op s = .fault (.undefinedOpcode op)

/-- The extended rotates (R391 to R398), written bit by bit. -/
def Obligations.ExtendedRotates : Prop :=
  (∀ (o : Operand8) (b2 : Byte),
    decodeInstr 0xCB (0b00000#5 ++ operandCode o) b2 = Form.shift .rlc o ∧
    decodeInstr 0xCB (0b00001#5 ++ operandCode o) b2 = Form.shift .rrc o ∧
    decodeInstr 0xCB (0b00010#5 ++ operandCode o) b2 = Form.shift .rl o ∧
    decodeInstr 0xCB (0b00011#5 ++ operandCode o) b2 = Form.shift .rr o) ∧
  (∀ (s : State) (op : ShiftOp) (v r : Byte) (c : Bool),
    (op = .rlc ∧ r = v.extractLsb' 0 7 ++ v.extractLsb' 7 1 ∧ c = v.getLsbD 7) ∨
    (op = .rrc ∧ r = v.extractLsb' 0 1 ++ v.extractLsb' 1 7 ∧ c = v.getLsbD 0) ∨
    (op = .rl ∧ r = v.extractLsb' 0 7 ++ BitVec.ofBool s.cf ∧ c = v.getLsbD 7) ∨
    (op = .rr ∧ r = BitVec.ofBool s.cf ++ v.extractLsb' 1 7 ∧ c = v.getLsbD 0) →
      (∀ q, s.reg q = v → exec (Form.shift op (.reg q)) s =
        .next { s.setReg q r with f := packFlags (decide (r = 0)) false false c, pc := s.pc + 2, cyc := s.cyc + 2 }) ∧
      (s.busRead s.hl = .ok v → exec (Form.shift op .indHl) s =
        .next { s.deliver s.hl r with f := packFlags (decide (r = 0)) false false c, pc := s.pc + 2, cyc := s.cyc + 4 })) ∧
  ∀ (s : State) (r : Fault), s.busRead s.hl = .error r →
    exec (Form.shift .rlc .indHl) s = .fault r ∧ exec (Form.shift .rrc .indHl) s = .fault r ∧ exec (Form.shift .rl .indHl) s = .fault r ∧ exec (Form.shift .rr .indHl) s = .fault r

/-- The extended shifts and SWAP (R399 to R406), written bit by bit. -/
def Obligations.ExtendedShiftsAndSwap : Prop :=
  (∀ (o : Operand8) (b2 : Byte),
    decodeInstr 0xCB (0b00100#5 ++ operandCode o) b2 = Form.shift .sla o ∧
    decodeInstr 0xCB (0b00101#5 ++ operandCode o) b2 = Form.shift .sra o ∧
    decodeInstr 0xCB (0b00110#5 ++ operandCode o) b2 = Form.shift .swap o ∧
    decodeInstr 0xCB (0b00111#5 ++ operandCode o) b2 = Form.shift .srl o) ∧
  (∀ (s : State) (op : ShiftOp) (v r : Byte) (c : Bool),
    (op = .sla ∧ r = v.extractLsb' 0 7 ++ 0#1 ∧ c = v.getLsbD 7) ∨
    (op = .sra ∧ r = v.extractLsb' 7 1 ++ v.extractLsb' 1 7 ∧ c = v.getLsbD 0) ∨
    (op = .swap ∧ r = v.extractLsb' 0 4 ++ v.extractLsb' 4 4 ∧ c = false) ∨
    (op = .srl ∧ r = 0#1 ++ v.extractLsb' 1 7 ∧ c = v.getLsbD 0) →
      (∀ q, s.reg q = v → exec (Form.shift op (.reg q)) s =
        .next { s.setReg q r with f := packFlags (decide (r = 0)) false false c, pc := s.pc + 2, cyc := s.cyc + 2 }) ∧
      (s.busRead s.hl = .ok v → exec (Form.shift op .indHl) s =
        .next { s.deliver s.hl r with f := packFlags (decide (r = 0)) false false c, pc := s.pc + 2, cyc := s.cyc + 4 })) ∧
  ∀ (s : State) (r : Fault), s.busRead s.hl = .error r →
    exec (Form.shift .sla .indHl) s = .fault r ∧ exec (Form.shift .sra .indHl) s = .fault r ∧ exec (Form.shift .swap .indHl) s = .fault r ∧ exec (Form.shift .srl .indHl) s = .fault r

/-- BIT (R420, R421). -/
def Obligations.TestBit : Prop :=
  (∀ (n : BitVec 3) (o : Operand8) (b2 : Byte), decodeInstr 0xCB (0b01#2 ++ n ++ operandCode o) b2 = Form.bit n o) ∧
  (∀ (s : State) (n : BitVec 3) (v f : Byte), f = packFlags (!v.getLsbD n.toNat) false true s.cf →
    (∀ q, s.reg q = v → exec (Form.bit n (.reg q)) s = .next { s with f := f, pc := s.pc + 2, cyc := s.cyc + 2 }) ∧
    (s.busRead s.hl = .ok v → exec (Form.bit n .indHl) s = .next { s with f := f, pc := s.pc + 2, cyc := s.cyc + 3 })) ∧
  ∀ (s : State) (n : BitVec 3) (r : Fault), s.busRead s.hl = .error r → exec (Form.bit n .indHl) s = .fault r

/-- RES and SET (R422 to R425), bit by bit. -/
def Obligations.ResetAndSetBit : Prop :=
  (∀ (n : BitVec 3) (o : Operand8) (b2 : Byte), decodeInstr 0xCB (0b10#2 ++ n ++ operandCode o) b2 = Form.res n o ∧
    decodeInstr 0xCB (0b11#2 ++ n ++ operandCode o) b2 = Form.set n o) ∧
  (∀ (s : State) (n : BitVec 3) (v low high : Byte),
    (∀ k, k < 8 → low.getLsbD k = if k = n.toNat then false else v.getLsbD k) →
    (∀ k, k < 8 → high.getLsbD k = if k = n.toNat then true else v.getLsbD k) →
    (∀ q, s.reg q = v →
      exec (Form.res n (.reg q)) s = .next { s.setReg q low with pc := s.pc + 2, cyc := s.cyc + 2 } ∧
      exec (Form.set n (.reg q)) s = .next { s.setReg q high with pc := s.pc + 2, cyc := s.cyc + 2 }) ∧
    (s.busRead s.hl = .ok v →
      exec (Form.res n .indHl) s = .next { s.deliver s.hl low with pc := s.pc + 2, cyc := s.cyc + 4 } ∧
      exec (Form.set n .indHl) s = .next { s.deliver s.hl high with pc := s.pc + 2, cyc := s.cyc + 4 })) ∧
  ∀ (s : State) (n : BitVec 3) (r : Fault), s.busRead s.hl = .error r →
    exec (Form.res n .indHl) s = .fault r ∧ exec (Form.set n .indHl) s = .fault r

/-- Pair and half aliasing (R31, R32). -/
def Obligations.RegisterHalvesAndPairs : Prop :=
  (∀ s : State, s.bc.toNat = s.b.toNat * 256 + s.c.toNat ∧ s.de.toNat = s.d.toNat * 256 + s.e.toNat ∧
    s.hl.toNat = s.h.toNat * 256 + s.l.toNat ∧ s.af.toNat = s.a.toNat * 256 + s.f.toNat) ∧
  (∀ (s : State) (v : Word) (hi lo : Byte), v.toNat = hi.toNat * 256 + lo.toNat →
    s.setPair .bc v = { s with b := hi, c := lo } ∧ s.setPair .de v = { s with d := hi, e := lo } ∧
    s.setPair .hl v = { s with h := hi, l := lo } ∧ s.setPair .sp v = { s with sp := v } ∧
    s.setStackPair .bc v = { s with b := hi, c := lo } ∧ s.setStackPair .de v = { s with d := hi, e := lo } ∧
    s.setStackPair .hl v = { s with h := hi, l := lo } ∧
    s.setStackPair .af v = { s with a := hi, f := lo.extractLsb' 4 4 ++ 0b0000#4 }) ∧
  (∀ (s : State) (v : Word) (rr : Pair), (s.setPair rr v).pair rr = v) ∧
  ∀ (s : State) (v : Byte),
    s.setReg .a v = { s with a := v } ∧ s.setReg .b v = { s with b := v } ∧ s.setReg .c v = { s with c := v } ∧
    s.setReg .d v = { s with d := v } ∧ s.setReg .e v = { s with e := v } ∧ s.setReg .h v = { s with h := v } ∧
    s.setReg .l v = { s with l := v } ∧
    s.reg .a = s.a ∧ s.reg .b = s.b ∧ s.reg .c = s.c ∧ s.reg .d = s.d ∧ s.reg .e = s.e ∧ s.reg .h = s.h ∧ s.reg .l = s.l

/-- The regions (R79, R81, R82, R84 to R88) and the serial stub (R450, R451). A byte of a buffer is kept under the bus address it decodes to. -/
def Obligations.StorageRegionsAndDevices : Prop :=
  ∀ (s : State) (a : Word) (v : Byte),
    ((0x8000 ≤ a.toNat ∧ a.toNat < 0xA000) ∨ (0xC000 ≤ a.toNat ∧ a.toNat < 0xE000) ∨ (0xFE00 ≤ a.toNat ∧ a.toNat < 0xFEA0) ∨
        (0xFF80 ≤ a.toNat ∧ a.toNat < 0xFFFF) →
      s.busRead a = .ok (s.ram.get a.toNat) ∧ s.busWrite a v = .ok { s with ram := s.ram.set a.toNat v }) ∧
    (0xE000 ≤ a.toNat ∧ a.toNat < 0xFE00 →
      s.busRead a = .ok (s.ram.get (a.toNat - 0x2000)) ∧
      s.busWrite a v = .ok { s with ram := s.ram.set (a.toNat - 0x2000) v }) ∧
    (a.toNat = 0xFFFF → s.busRead a = .ok s.ie ∧ s.busWrite a v = .ok { s with ie := v }) ∧
    (0xFEA0 ≤ a.toNat ∧ a.toNat < 0xFF00 → s.busRead a = .ok 0x00 ∧ s.busWrite a v = .ok s) ∧
    (0xFF00 ≤ a.toNat ∧ a.toNat < 0xFF80 →
      s.busRead a = .ok 0x00 ∧
      s.busWrite a v =
        .ok (if a.toNat = 0xFF01 then { s with sb := v }
          else if a.toNat = 0xFF02 ∧ v = 0x81 then { s with serialOut := s.serialOut ++ [s.sb] }
          else s))

/-- NoCartridge (R115), and what `windowOpen` means. -/
def Obligations.NoCartridgeFault : Prop :=
  (∀ (s : State) (a : Word) (v : Byte), s.cart = none →
    (inCartWindow a → s.busRead a = .error .noCartridge ∧ s.busWrite a v = .error .noCartridge) ∧
    (¬ inCartWindow a → ∃ x t, s.busRead a = .ok x ∧ s.busWrite a v = .ok t)) ∧
  ∀ (s : State) (a : Word), (s.windowOpen a = true ↔ s.cart ≠ none ∨ ¬ inCartWindow a) ∧
    ∀ v : Byte, s.windowOpen a = true → s.busWrite a v = .ok (s.deliver a v)

/-- The no-banking scheme (R103 to R106) and the image bound (R114). The last clause is the model's choice, DESIGN CHOICE of log entry 2: R114 calls the byte of `draw` unconstrained, and the model writes it as the free value Config.oobByte of the offset and the cycle counter; nothing here rests on its value. -/
def Obligations.NoBankingScheme : Prop :=
  (∀ (s : State) (ct : Cart) (a : Word) (v : Byte), s.cart = some ct → ct.scheme = .noBanking →
    (a.toNat < 0x8000 →
      s.busRead a = (if a.toNat < ct.image.size then .ok (ct.image.cells.get a.toNat) else .error (.cartReadOutOfImage a.toNat)) ∧
      s.busWrite a v = .ok s) ∧
    (0xA000 ≤ a.toNat ∧ a.toNat < 0xC000 → s.busRead a = .ok 0x00 ∧ s.busWrite a v = .ok s)) ∧
  ∀ (img : Image) (cyc : Cycles) (i : Nat),
    (i < img.size → ∀ policy, imageByteUnder policy img cyc i = .ok (img.cells.get i)) ∧
    (img.size ≤ i →
      imageByteUnder .fault img cyc i = .error (.cartReadOutOfImage i) ∧ imageByte img cyc i = .error (.cartReadOutOfImage i) ∧
      imageByteUnder .draw img cyc i = .ok (Config.oobByte i cyc))

/-- The type-1 scheme (R107 to R113). -/
def Obligations.Type1Controller : Prop :=
  ∀ (s : State) (ct : Cart) (a : Word) (v : Byte), s.cart = some ct → ct.scheme = .type1 →
    (a.toNat < 0x4000 → s.busRead a = ct.image.byteAt a.toNat) ∧
    (0x4000 ≤ a.toNat ∧ a.toNat < 0x8000 →
      s.busRead a = ct.image.byteAt (ct.romBank.toNat * 0x4000 + (a.toNat - 0x4000))) ∧
    (a.toNat < 0x2000 → s.busWrite a v = .ok { s with cart := some { ct with ramEnable := decide (v.toNat % 16 = 0xA) } }) ∧
    (0x2000 ≤ a.toNat ∧ a.toNat < 0x4000 →
      ∃ bank : BitVec 7,
        bank.toNat = ct.romBank.toNat / 32 * 32 + (if v.toNat % 32 = 0 then 1 else v.toNat % 32) ∧
        s.busWrite a v = .ok { s with cart := some { ct with romBank := bank } }) ∧
    (0x4000 ≤ a.toNat ∧ a.toNat < 0x6000 → ct.mode = .largeRom →
      ∃ bank : BitVec 7,
        bank.toNat = v.toNat % 4 * 32 + ct.romBank.toNat % 32 ∧
        s.busWrite a v = .ok { s with cart := some { ct with romBank := bank } }) ∧
    (0x4000 ≤ a.toNat ∧ a.toNat < 0x6000 → ct.mode = .largeRam →
      ∃ bank : BitVec 2,
        bank.toNat = v.toNat % 4 ∧ s.busWrite a v = .ok { s with cart := some { ct with ramBank := bank } }) ∧
    (0x6000 ≤ a.toNat ∧ a.toNat < 0x8000 →
      s.busWrite a v =
        .ok { s with
              cart := some (if v.toNat % 2 = 1 then { ct with mode := .largeRam }
                else { ct with mode := .largeRom, ramBank := 0 }) }) ∧
    (0xA000 ≤ a.toNat ∧ a.toNat < 0xC000 →
      s.busRead a = .ok (ct.eram.get (ct.ramBank.toNat * 0x2000 + (a.toNat - 0xA000))) ∧
      s.busWrite a v =
        .ok { s with cart := some { ct with eram := ct.eram.set (ct.ramBank.toNat * 0x2000 + (a.toNat - 0xA000)) v } })

/-- Bank switching (R117, R489), through the store instruction that does it. -/
def Obligations.BankSwitchIsSeenByTheNextAccess : Prop :=
  ∀ (s t : State) (ct : Cart) (w a : Word), s.cart = some ct → ct.scheme = .type1 → 0x2000 ≤ w.toNat → w.toNat < 0x4000 →
    exec (.ldIndA16A w) s = .next t →
    (0x4000 ≤ a.toNat → a.toNat < 0x8000 →
      t.busRead a = ct.image.byteAt
        ((ct.romBank.toNat / 32 * 32 + (if s.a.toNat % 32 = 0 then 1 else s.a.toNat % 32)) * 0x4000 + (a.toNat - 0x4000))) ∧
    (a.toNat < 0x4000 → t.busRead a = s.busRead a) ∧
    t.pc = s.pc + 3 ∧
    ∀ op, t.busRead (s.pc + 3) = .ok op → instrLength op = 1 → step t = exec (decodeInstr op 0 0) t

/-- MemRead(addr, 2) and MemWrite(addr, 2, v) (R73, R74). -/
def Obligations.SixteenBitBusAccess : Prop :=
  (∀ (s : State) (a : Word) (lo hi : Byte), s.busRead a = .ok lo → s.busRead (a + 1) = .ok hi →
    s.busRead16 a = .ok (BitVec.ofNat 16 (hi.toNat * 256 + lo.toNat))) ∧
  (∀ (s : State) (a : Word) (r : Fault),
    s.busRead a = .error r ∨ (s.readable a = true ∧ s.busRead (a + 1) = .error r) → s.busRead16 a = .error r) ∧
  (∀ (s u : State) (a v : Word), s.busWrite a (BitVec.ofNat 8 v.toNat) = .ok u →
    s.busWrite16 a v = u.busWrite (a + 1) (BitVec.ofNat 8 (v.toNat / 256))) ∧
  ∀ (s : State) (a v : Word) (r : Fault), s.busWrite a (BitVec.ofNat 8 v.toNat) = .error r → s.busWrite16 a v = .error r

/-- Scheme selection (R101), unload (R102), load (R483); `er` is external RAM's INIT_MEM. -/
def Obligations.LoadAndUnloadCartridge : Prop :=
  (∀ (s : State) (bytes : List Byte) (er : Memory), ∃ ct : Cart,
    s.load bytes er = { s with cart := some ct } ∧ ct.image.size = bytes.length ∧
    (∀ i, i < bytes.length → ct.image.cells.get i = bytes.getD i 0) ∧
    (ct.scheme = .type1 ↔
      0x147 < bytes.length ∧ (bytes.getD 0x147 0 = 0x01 ∨ bytes.getD 0x147 0 = 0x02 ∨ bytes.getD 0x147 0 = 0x03)) ∧
    ct.romBank = 0x01 ∧ ct.ramBank = 0 ∧ ct.mode = .largeRom ∧ ct.ramEnable = false ∧ (ct.scheme = .type1 → ct.eram = er)) ∧
  (∀ (s : State) (old bytes : List Byte) (er er' : Memory), (s.load old er').load bytes er = s.unload.load bytes er) ∧
  (∀ s : State, s.unload = { s with cart := none }) ∧
  ∀ (s : State) (er : Memory), perform (.load none er) s = .hostFailure

/-- Post-boot I/O initialization (R484): its net effect, and the number and the addresses of its writes. -/
def Obligations.PostBootInitialization : Prop :=
  postBootWrites.map Prod.fst =
      [0xFF05, 0xFF06, 0xFF07, 0xFF10, 0xFF11, 0xFF12, 0xFF14, 0xFF16, 0xFF17, 0xFF19, 0xFF1A, 0xFF1B, 0xFF1C, 0xFF1E, 0xFF20,
        0xFF21, 0xFF22, 0xFF23, 0xFF24, 0xFF25, 0xFF26, 0xFF40, 0xFF42, 0xFF43, 0xFF45, 0xFF47, 0xFF48, 0xFF49, 0xFF4A, 0xFF4B,
        0xFFFF] ∧
    postBootWrites.map Prod.snd =
      [0x00, 0x00, 0x00, 0x80, 0xBF, 0xF3, 0xBF, 0x3F, 0x00, 0xBF, 0x7F, 0xFF, 0x9F, 0xBF, 0xFF, 0x00, 0x00, 0xBF, 0x77, 0xF3,
        0xF1, 0x91, 0x00, 0x00, 0x00, 0xFC, 0xFF, 0xFF, 0x00, 0x00, 0x00] ∧
    ∀ s : State,
      s.postBoot =
        .ok { s with
              a := 0x01, f := 0xB0, b := 0x00, c := 0x13, d := 0x00, e := 0xD8, h := 0x01, l := 0x4D, sp := 0xFFFE, pc := 0x0100,
              ie := 0x00 }

/-- CPU and bus initialization (R480, R482), for every INIT_MEM; the choice State.reset makes of it (log entry 1) is no part of this. -/
def Obligations.InitializationState : Prop :=
  ∀ (s : State) (initMem : Memory), ∃ t : State,
    perform (.init (some initMem)) s = .next t none ∧ perform (.init none) s = .hostFailure ∧
    t.a = 0x01 ∧ t.f = 0xB0 ∧ t.b = 0x00 ∧ t.c = 0x13 ∧ t.d = 0x00 ∧ t.e = 0xD8 ∧ t.h = 0x01 ∧ t.l = 0x4D ∧ t.sp = 0xFFFE ∧
    t.pc = 0x0100 ∧ t.cyc = 0 ∧ t.ram = initMem ∧ t.ie = 0x00 ∧ t.sb = 0x00 ∧ t.serialOut = [] ∧ t.cart = none

/-- One step (R150, R151, R12): `exec` itself moves PC past the instruction's bytes and charges its duration, so step adds nothing around it. -/
def Obligations.StepRunsTheDecodedInstruction : Prop :=
  (∀ (s : State) (op b1 b2 : Byte), s.busRead s.pc = .ok op →
    (2 ≤ instrLength op → s.busRead (s.pc + 1) = .ok b1) → (instrLength op = 3 → s.busRead (s.pc + 2) = .ok b2) →
    WellFormed (decodeInstr op b1 b2) ∧ step s = exec (decodeInstr op b1 b2) s) ∧
  (∀ (s : State) (r : Fault), s.busRead s.pc = .error r → step s = .fault r) ∧
  (∀ (s : State) (op : Byte) (r : Fault), s.busRead s.pc = .ok op → 2 ≤ instrLength op → s.busRead (s.pc + 1) = .error r →
    step s = .fault r) ∧
  ∀ (s : State) (op b1 : Byte) (r : Fault), s.busRead s.pc = .ok op → instrLength op = 3 → s.busRead (s.pc + 1) = .ok b1 →
    s.busRead (s.pc + 2) = .error r → step s = .fault r

/-- The invariant at reset. State.reset takes every RAM byte as 0x00, the model's choice of log entry 1; the first clause holds for every INIT_MEM. -/
def Obligations.InvariantAtReset : Prop :=
  (∀ initMem : Memory, initMem.wf = true → initMem.keysIn isStorageIndex = true → (State.init initMem).inv = true) ∧
  State.reset.inv = true

/-- The invariant and one step, from every state, reached or not. -/
def Obligations.InvariantKeptByEveryStep : Prop :=
  ∀ s t : State, s.inv = true → step s = .next t → t.inv = true

/-- The invariant and the host's interactions (R455). -/
def Obligations.InvariantKeptByTheHost : Prop :=
  ∀ (s t : State) (m : Interaction) (b : Option Byte), s.inv = true → perform m s = .next t b →
    (∀ initMem, m = .init (some initMem) ∨ m = .busInit (some initMem) → initMem.wf = true ∧ initMem.keysIn isStorageIndex = true) →
    (∀ bytes er, m = .load (some bytes) er → er.wf = true ∧ er.keysIn (fun k => decide (k < 0x8000)) = true) →
    t.inv = true

/-- "once initialization succeeds, step() never fails" (R440), made precise. -/
def Obligations.CompleteCartridgeNeverFaults : Prop :=
  (∀ (i : Instr) (s : State), s.ready = true → ∃ t, exec i s = .next t ∧ t.ready = true) ∧
  ∀ s : State, s.ready = true → ∃ t, step s = .next t ∧ t.ready = true

/-- The complete list of model faults under this hardware's policies (R441). -/
def Obligations.StepFaultsOnlyAtTheCartridge : Prop :=
  ∀ s : State,
    (∀ r : Fault, step s = .fault r →
      (r = .noCartridge ∧ s.cart = none) ∨
      ∃ ct i, s.cart = some ct ∧ r = .cartReadOutOfImage i ∧ ct.image.size ≤ i) ∧
    ∀ r : Refusal, step s ≠ .refused r

/-- The memory frame. `storesAt` computes the addresses an instruction stores to with the expressions its meaning uses; `storagePlace` says which storage byte an address decodes to, so that mirror addresses count as the byte they alias (R82). -/
def Obligations.MemoryFrameOfEveryInstruction : Prop :=
  ∀ (i : Instr) (s t : State), s.inv = true → exec i s = .next t →
    ((∀ b ∈ storesAt i s, 0x8000 ≤ b.toNat ∨ ∀ ct, s.cart = some ct → ct.scheme = .noBanking) →
      ∀ a : Word, s.storagePlace a = none ∨ (∀ b ∈ storesAt i s, s.storagePlace b ≠ s.storagePlace a) →
        t.busRead a = s.busRead a) ∧
    (∀ a : Word, a.toNat < 0x4000 ∨ (0x8000 ≤ a.toNat ∧ a.toNat < 0xA000) ∨ 0xC000 ≤ a.toNat →
      s.storagePlace a = none ∨ (∀ b ∈ storesAt i s, s.storagePlace b ≠ s.storagePlace a) →
      t.busRead a = s.busRead a)

/-- Memory consistency of the bus (R120), mirror addresses included (R82). -/
def Obligations.StorageReadsBackWhatWasWritten : Prop :=
  ∀ (s : State) (a : Word) (v : Byte) (p : Place), s.inv = true → s.storagePlace a = some p →
    ∃ t, s.busWrite a v = .ok t ∧
      (∀ b, t.storagePlace b = s.storagePlace b) ∧
      (∀ b, s.storagePlace b = some p → t.busRead b = .ok v) ∧
      (∀ b, s.storagePlace b ≠ some p → t.busRead b = s.busRead b) ∧
      t.a = s.a ∧ t.f = s.f ∧ t.bc = s.bc ∧ t.de = s.de ∧ t.hl = s.hl ∧ t.sp = s.sp ∧ t.pc = s.pc ∧ t.cyc = s.cyc

/-- No instruction reads the cycle counter (R37, R492): two runs that differ in it differ in nothing else. -/
def Obligations.TimingAffectsNothingElse : Prop :=
  ∀ (s : State) (n : Cycles), step (s.delayed n) = mapNext (fun t => t.delayed n) (step s)

/-- RAM enable is stored but not enforced (R109, R49). -/
def Obligations.RamEnableAffectsNothingElse : Prop :=
  ∀ s s' : State, s.forgetRamEnable = s'.forgetRamEnable →
    mapNext State.forgetRamEnable (step s) = mapNext State.forgetRamEnable (step s')

/-- ROM is never written (R123), and `serial_out` only grows (R44). -/
def Obligations.ImageKeptAndSerialOutputOnlyGrows : Prop :=
  ∀ s t : State, step s = .next t →
    t.cart.map Cart.image = s.cart.map Cart.image ∧ t.cart.map Cart.scheme = s.cart.map Cart.scheme ∧
    ∃ out, t.serialOut = s.serialOut ++ out ∧ out.length ≤ 2

/-- The durations of R490 lie between 1 and 6. -/
def Obligations.EveryStepChargesOneToSixCycles : Prop :=
  ∀ s t : State, step s = .next t → ∃ k : Nat, 1 ≤ k ∧ k ≤ 6 ∧ t.cyc = s.cyc + BitVec.ofNat 32 k

/-- The round trip of R223 and R343, on the storage the rule names. -/
def Obligations.StackRoundTrip : Prop :=
  ∀ s : State, s.inv = true → s.storagePlace (s.sp - 2) ≠ none → s.storagePlace (s.sp - 1) ≠ none →
    (∀ qq : StackPair, ∃ t u, exec (Form.push qq) s = .next t ∧ exec (Form.pop qq) t = .next u ∧
      u.stackPair qq = s.stackPair qq ∧ u.sp = s.sp ∧ u.pc = s.pc + 2 ∧ u.cyc = s.cyc + 7) ∧
    ∀ a16 : Word, ∃ t u, exec (.callA16 a16) s = .next t ∧ t.pc = a16 ∧ exec .ret t = .next u ∧
      u.pc = s.pc + 3 ∧ u.sp = s.sp ∧ u.cyc = s.cyc + 10

/-- What DAA is for (R314): the decimal sum of BCD bytes, after ADD A,d8 (R262) and after ADC A,d8 (R265). -/
def Obligations.DecimalAdjustAddsInDecimal : Prop :=
  ∀ (s : State) (v : Byte) (i : Instr) (cin : Nat), (i = .addAD8 v ∧ cin = 0) ∨ (i = .adcAD8 v ∧ cin = s.cf.toNat) →
    s.a.toNat % 16 < 10 → s.a.toNat / 16 < 10 → v.toNat % 16 < 10 → v.toNat / 16 < 10 →
    ∃ t u, exec i s = .next t ∧ exec .daa t = .next u ∧
      (u.a.toNat / 16 * 10 + u.a.toNat % 16 =
        (s.a.toNat / 16 * 10 + s.a.toNat % 16 + (v.toNat / 16 * 10 + v.toNat % 16) + cin) % 100) ∧
      u.a.toNat % 16 < 10 ∧ u.a.toNat / 16 < 10 ∧
      (u.cf = true ↔ 100 ≤ s.a.toNat / 16 * 10 + s.a.toNat % 16 + (v.toNat / 16 * 10 + v.toNat % 16) + cin)

/-- Bring-up (R486, R480 to R484). That the CPU and the bus initialization are also moves of their own is the model's reading of R486, which marks its sentence on it as derived (DEDUCED, log entry 11). -/
def Obligations.BringUpOrder : Prop :=
  (∀ (s : State) (initMem : Memory), ∃ t,
    perform .cpuInit s =
      .next { s with
              a := 0x01, f := 0xB0, b := 0x00, c := 0x13, d := 0x00, e := 0xD8, h := 0x01, l := 0x4D, sp := 0xFFFE, pc := 0x0100,
              cyc := 0 } none ∧
    perform (.busInit (some initMem)) s = .next t none ∧ perform (.busInit none) s = .hostFailure ∧
    t = { s with ram := initMem, ie := 0x00, sb := 0x00, serialOut := [], cart := none } ∧
    perform (.init (some initMem)) s = perform .cpuInit t) ∧
  (∀ (s : State) (bytes : List Byte) (er : Memory), ∃ t t' u,
    perform (.load (some bytes) er) s = .next t none ∧ perform .cpuInit t = .next u none ∧
    perform .cpuInit s = .next t' none ∧ perform (.load (some bytes) er) t' = .next u none ∧
    u.cart = t.cart ∧ t.cart ≠ none ∧ { t with cart := s.cart } = s) ∧
  (∀ (s t : State) (m : Interaction) (b : Option Byte), (∃ bytes er, m = .load bytes er) ∨ m = .unload ∨ m = .postBoot →
    perform m s = .next t b → t.cyc = s.cyc) ∧
  ∀ (s : State) (initMem : Memory) (bytes : List Byte) (er : Memory), ∃ t u,
    perform (.init (some initMem)) s = .next t none ∧ perform (.load (some bytes) er) t = .next u none ∧
    perform .postBoot u = .next u none
end

