-- ==== Sys2Proof/Laws/State.lean ====
section
/-! SUPPORT. One lemma per field per named update of the state, so that no later proof unfolds a record update. -/

namespace Sys2Proof.Machine

/-! ## setFlags -/

@[simp] theorem setFlags_a (s : State) (fl : Flags) : (s.setFlags fl).a = s.a := rfl
@[simp] theorem setFlags_f (s : State) (fl : Flags) : (s.setFlags fl).f = fl.toByte := rfl
@[simp] theorem setFlags_b (s : State) (fl : Flags) : (s.setFlags fl).b = s.b := rfl
@[simp] theorem setFlags_c (s : State) (fl : Flags) : (s.setFlags fl).c = s.c := rfl
@[simp] theorem setFlags_d (s : State) (fl : Flags) : (s.setFlags fl).d = s.d := rfl
@[simp] theorem setFlags_e (s : State) (fl : Flags) : (s.setFlags fl).e = s.e := rfl
@[simp] theorem setFlags_h (s : State) (fl : Flags) : (s.setFlags fl).h = s.h := rfl
@[simp] theorem setFlags_l (s : State) (fl : Flags) : (s.setFlags fl).l = s.l := rfl
@[simp] theorem setFlags_sp (s : State) (fl : Flags) : (s.setFlags fl).sp = s.sp := rfl
@[simp] theorem setFlags_pc (s : State) (fl : Flags) : (s.setFlags fl).pc = s.pc := rfl
@[simp] theorem setFlags_cyc (s : State) (fl : Flags) : (s.setFlags fl).cyc = s.cyc := rfl
@[simp] theorem setFlags_ram (s : State) (fl : Flags) : (s.setFlags fl).ram = s.ram := rfl
@[simp] theorem setFlags_ie (s : State) (fl : Flags) : (s.setFlags fl).ie = s.ie := rfl
@[simp] theorem setFlags_sb (s : State) (fl : Flags) : (s.setFlags fl).sb = s.sb := rfl
@[simp] theorem setFlags_serialOut (s : State) (fl : Flags) : (s.setFlags fl).serialOut = s.serialOut := rfl
@[simp] theorem setFlags_cart (s : State) (fl : Flags) : (s.setFlags fl).cart = s.cart := rfl

/-! ## setSp -/

@[simp] theorem setSp_a (s : State) (v : Word) : (s.setSp v).a = s.a := rfl
@[simp] theorem setSp_f (s : State) (v : Word) : (s.setSp v).f = s.f := rfl
@[simp] theorem setSp_b (s : State) (v : Word) : (s.setSp v).b = s.b := rfl
@[simp] theorem setSp_c (s : State) (v : Word) : (s.setSp v).c = s.c := rfl
@[simp] theorem setSp_d (s : State) (v : Word) : (s.setSp v).d = s.d := rfl
@[simp] theorem setSp_e (s : State) (v : Word) : (s.setSp v).e = s.e := rfl
@[simp] theorem setSp_h (s : State) (v : Word) : (s.setSp v).h = s.h := rfl
@[simp] theorem setSp_l (s : State) (v : Word) : (s.setSp v).l = s.l := rfl
@[simp] theorem setSp_sp (s : State) (v : Word) : (s.setSp v).sp = v := rfl
@[simp] theorem setSp_pc (s : State) (v : Word) : (s.setSp v).pc = s.pc := rfl
@[simp] theorem setSp_cyc (s : State) (v : Word) : (s.setSp v).cyc = s.cyc := rfl
@[simp] theorem setSp_ram (s : State) (v : Word) : (s.setSp v).ram = s.ram := rfl
@[simp] theorem setSp_ie (s : State) (v : Word) : (s.setSp v).ie = s.ie := rfl
@[simp] theorem setSp_sb (s : State) (v : Word) : (s.setSp v).sb = s.sb := rfl
@[simp] theorem setSp_serialOut (s : State) (v : Word) : (s.setSp v).serialOut = s.serialOut := rfl
@[simp] theorem setSp_cart (s : State) (v : Word) : (s.setSp v).cart = s.cart := rfl

/-! ## setBc -/

@[simp] theorem setBc_a (s : State) (v : Word) : (s.setBc v).a = s.a := rfl
@[simp] theorem setBc_f (s : State) (v : Word) : (s.setBc v).f = s.f := rfl
@[simp] theorem setBc_b (s : State) (v : Word) : (s.setBc v).b = hiByte v := rfl
@[simp] theorem setBc_c (s : State) (v : Word) : (s.setBc v).c = loByte v := rfl
@[simp] theorem setBc_d (s : State) (v : Word) : (s.setBc v).d = s.d := rfl
@[simp] theorem setBc_e (s : State) (v : Word) : (s.setBc v).e = s.e := rfl
@[simp] theorem setBc_h (s : State) (v : Word) : (s.setBc v).h = s.h := rfl
@[simp] theorem setBc_l (s : State) (v : Word) : (s.setBc v).l = s.l := rfl
@[simp] theorem setBc_sp (s : State) (v : Word) : (s.setBc v).sp = s.sp := rfl
@[simp] theorem setBc_pc (s : State) (v : Word) : (s.setBc v).pc = s.pc := rfl
@[simp] theorem setBc_cyc (s : State) (v : Word) : (s.setBc v).cyc = s.cyc := rfl
@[simp] theorem setBc_ram (s : State) (v : Word) : (s.setBc v).ram = s.ram := rfl
@[simp] theorem setBc_ie (s : State) (v : Word) : (s.setBc v).ie = s.ie := rfl
@[simp] theorem setBc_sb (s : State) (v : Word) : (s.setBc v).sb = s.sb := rfl
@[simp] theorem setBc_serialOut (s : State) (v : Word) : (s.setBc v).serialOut = s.serialOut := rfl
@[simp] theorem setBc_cart (s : State) (v : Word) : (s.setBc v).cart = s.cart := rfl

/-! ## setDe -/

@[simp] theorem setDe_a (s : State) (v : Word) : (s.setDe v).a = s.a := rfl
@[simp] theorem setDe_f (s : State) (v : Word) : (s.setDe v).f = s.f := rfl
@[simp] theorem setDe_b (s : State) (v : Word) : (s.setDe v).b = s.b := rfl
@[simp] theorem setDe_c (s : State) (v : Word) : (s.setDe v).c = s.c := rfl
@[simp] theorem setDe_d (s : State) (v : Word) : (s.setDe v).d = hiByte v := rfl
@[simp] theorem setDe_e (s : State) (v : Word) : (s.setDe v).e = loByte v := rfl
@[simp] theorem setDe_h (s : State) (v : Word) : (s.setDe v).h = s.h := rfl
@[simp] theorem setDe_l (s : State) (v : Word) : (s.setDe v).l = s.l := rfl
@[simp] theorem setDe_sp (s : State) (v : Word) : (s.setDe v).sp = s.sp := rfl
@[simp] theorem setDe_pc (s : State) (v : Word) : (s.setDe v).pc = s.pc := rfl
@[simp] theorem setDe_cyc (s : State) (v : Word) : (s.setDe v).cyc = s.cyc := rfl
@[simp] theorem setDe_ram (s : State) (v : Word) : (s.setDe v).ram = s.ram := rfl
@[simp] theorem setDe_ie (s : State) (v : Word) : (s.setDe v).ie = s.ie := rfl
@[simp] theorem setDe_sb (s : State) (v : Word) : (s.setDe v).sb = s.sb := rfl
@[simp] theorem setDe_serialOut (s : State) (v : Word) : (s.setDe v).serialOut = s.serialOut := rfl
@[simp] theorem setDe_cart (s : State) (v : Word) : (s.setDe v).cart = s.cart := rfl

/-! ## setHl -/

@[simp] theorem setHl_a (s : State) (v : Word) : (s.setHl v).a = s.a := rfl
@[simp] theorem setHl_f (s : State) (v : Word) : (s.setHl v).f = s.f := rfl
@[simp] theorem setHl_b (s : State) (v : Word) : (s.setHl v).b = s.b := rfl
@[simp] theorem setHl_c (s : State) (v : Word) : (s.setHl v).c = s.c := rfl
@[simp] theorem setHl_d (s : State) (v : Word) : (s.setHl v).d = s.d := rfl
@[simp] theorem setHl_e (s : State) (v : Word) : (s.setHl v).e = s.e := rfl
@[simp] theorem setHl_h (s : State) (v : Word) : (s.setHl v).h = hiByte v := rfl
@[simp] theorem setHl_l (s : State) (v : Word) : (s.setHl v).l = loByte v := rfl
@[simp] theorem setHl_sp (s : State) (v : Word) : (s.setHl v).sp = s.sp := rfl
@[simp] theorem setHl_pc (s : State) (v : Word) : (s.setHl v).pc = s.pc := rfl
@[simp] theorem setHl_cyc (s : State) (v : Word) : (s.setHl v).cyc = s.cyc := rfl
@[simp] theorem setHl_ram (s : State) (v : Word) : (s.setHl v).ram = s.ram := rfl
@[simp] theorem setHl_ie (s : State) (v : Word) : (s.setHl v).ie = s.ie := rfl
@[simp] theorem setHl_sb (s : State) (v : Word) : (s.setHl v).sb = s.sb := rfl
@[simp] theorem setHl_serialOut (s : State) (v : Word) : (s.setHl v).serialOut = s.serialOut := rfl
@[simp] theorem setHl_cart (s : State) (v : Word) : (s.setHl v).cart = s.cart := rfl

/-! ## setAf -/

@[simp] theorem setAf_a (s : State) (v : Word) : (s.setAf v).a = hiByte v := rfl
@[simp] theorem setAf_f (s : State) (v : Word) : (s.setAf v).f = loByte v &&& 0xF0 := rfl
@[simp] theorem setAf_b (s : State) (v : Word) : (s.setAf v).b = s.b := rfl
@[simp] theorem setAf_c (s : State) (v : Word) : (s.setAf v).c = s.c := rfl
@[simp] theorem setAf_d (s : State) (v : Word) : (s.setAf v).d = s.d := rfl
@[simp] theorem setAf_e (s : State) (v : Word) : (s.setAf v).e = s.e := rfl
@[simp] theorem setAf_h (s : State) (v : Word) : (s.setAf v).h = s.h := rfl
@[simp] theorem setAf_l (s : State) (v : Word) : (s.setAf v).l = s.l := rfl
@[simp] theorem setAf_sp (s : State) (v : Word) : (s.setAf v).sp = s.sp := rfl
@[simp] theorem setAf_pc (s : State) (v : Word) : (s.setAf v).pc = s.pc := rfl
@[simp] theorem setAf_cyc (s : State) (v : Word) : (s.setAf v).cyc = s.cyc := rfl
@[simp] theorem setAf_ram (s : State) (v : Word) : (s.setAf v).ram = s.ram := rfl
@[simp] theorem setAf_ie (s : State) (v : Word) : (s.setAf v).ie = s.ie := rfl
@[simp] theorem setAf_sb (s : State) (v : Word) : (s.setAf v).sb = s.sb := rfl
@[simp] theorem setAf_serialOut (s : State) (v : Word) : (s.setAf v).serialOut = s.serialOut := rfl
@[simp] theorem setAf_cart (s : State) (v : Word) : (s.setAf v).cart = s.cart := rfl

/-! ## retire -/

@[simp] theorem retire_a (s : State) (len : Word) (m : Cycles) : (s.retire len m).a = s.a := rfl
@[simp] theorem retire_f (s : State) (len : Word) (m : Cycles) : (s.retire len m).f = s.f := rfl
@[simp] theorem retire_b (s : State) (len : Word) (m : Cycles) : (s.retire len m).b = s.b := rfl
@[simp] theorem retire_c (s : State) (len : Word) (m : Cycles) : (s.retire len m).c = s.c := rfl
@[simp] theorem retire_d (s : State) (len : Word) (m : Cycles) : (s.retire len m).d = s.d := rfl
@[simp] theorem retire_e (s : State) (len : Word) (m : Cycles) : (s.retire len m).e = s.e := rfl
@[simp] theorem retire_h (s : State) (len : Word) (m : Cycles) : (s.retire len m).h = s.h := rfl
@[simp] theorem retire_l (s : State) (len : Word) (m : Cycles) : (s.retire len m).l = s.l := rfl
@[simp] theorem retire_sp (s : State) (len : Word) (m : Cycles) : (s.retire len m).sp = s.sp := rfl
@[simp] theorem retire_pc (s : State) (len : Word) (m : Cycles) : (s.retire len m).pc = s.pc + len := rfl
@[simp] theorem retire_cyc (s : State) (len : Word) (m : Cycles) : (s.retire len m).cyc = s.cyc + m := rfl
@[simp] theorem retire_ram (s : State) (len : Word) (m : Cycles) : (s.retire len m).ram = s.ram := rfl
@[simp] theorem retire_ie (s : State) (len : Word) (m : Cycles) : (s.retire len m).ie = s.ie := rfl
@[simp] theorem retire_sb (s : State) (len : Word) (m : Cycles) : (s.retire len m).sb = s.sb := rfl
@[simp] theorem retire_serialOut (s : State) (len : Word) (m : Cycles) : (s.retire len m).serialOut = s.serialOut := rfl
@[simp] theorem retire_cart (s : State) (len : Word) (m : Cycles) : (s.retire len m).cart = s.cart := rfl

/-! ## goto -/

@[simp] theorem goto_a (s : State) (target : Word) (m : Cycles) : (s.goto target m).a = s.a := rfl
@[simp] theorem goto_f (s : State) (target : Word) (m : Cycles) : (s.goto target m).f = s.f := rfl
@[simp] theorem goto_b (s : State) (target : Word) (m : Cycles) : (s.goto target m).b = s.b := rfl
@[simp] theorem goto_c (s : State) (target : Word) (m : Cycles) : (s.goto target m).c = s.c := rfl
@[simp] theorem goto_d (s : State) (target : Word) (m : Cycles) : (s.goto target m).d = s.d := rfl
@[simp] theorem goto_e (s : State) (target : Word) (m : Cycles) : (s.goto target m).e = s.e := rfl
@[simp] theorem goto_h (s : State) (target : Word) (m : Cycles) : (s.goto target m).h = s.h := rfl
@[simp] theorem goto_l (s : State) (target : Word) (m : Cycles) : (s.goto target m).l = s.l := rfl
@[simp] theorem goto_sp (s : State) (target : Word) (m : Cycles) : (s.goto target m).sp = s.sp := rfl
@[simp] theorem goto_pc (s : State) (target : Word) (m : Cycles) : (s.goto target m).pc = target := rfl
@[simp] theorem goto_cyc (s : State) (target : Word) (m : Cycles) : (s.goto target m).cyc = s.cyc + m := rfl
@[simp] theorem goto_ram (s : State) (target : Word) (m : Cycles) : (s.goto target m).ram = s.ram := rfl
@[simp] theorem goto_ie (s : State) (target : Word) (m : Cycles) : (s.goto target m).ie = s.ie := rfl
@[simp] theorem goto_sb (s : State) (target : Word) (m : Cycles) : (s.goto target m).sb = s.sb := rfl
@[simp] theorem goto_serialOut (s : State) (target : Word) (m : Cycles) : (s.goto target m).serialOut = s.serialOut := rfl
@[simp] theorem goto_cart (s : State) (target : Word) (m : Cycles) : (s.goto target m).cart = s.cart := rfl

/-! ## setRam -/

@[simp] theorem setRam_a (s : State) (k : Nat) (v : Byte) : (s.setRam k v).a = s.a := rfl
@[simp] theorem setRam_f (s : State) (k : Nat) (v : Byte) : (s.setRam k v).f = s.f := rfl
@[simp] theorem setRam_b (s : State) (k : Nat) (v : Byte) : (s.setRam k v).b = s.b := rfl
@[simp] theorem setRam_c (s : State) (k : Nat) (v : Byte) : (s.setRam k v).c = s.c := rfl
@[simp] theorem setRam_d (s : State) (k : Nat) (v : Byte) : (s.setRam k v).d = s.d := rfl
@[simp] theorem setRam_e (s : State) (k : Nat) (v : Byte) : (s.setRam k v).e = s.e := rfl
@[simp] theorem setRam_h (s : State) (k : Nat) (v : Byte) : (s.setRam k v).h = s.h := rfl
@[simp] theorem setRam_l (s : State) (k : Nat) (v : Byte) : (s.setRam k v).l = s.l := rfl
@[simp] theorem setRam_sp (s : State) (k : Nat) (v : Byte) : (s.setRam k v).sp = s.sp := rfl
@[simp] theorem setRam_pc (s : State) (k : Nat) (v : Byte) : (s.setRam k v).pc = s.pc := rfl
@[simp] theorem setRam_cyc (s : State) (k : Nat) (v : Byte) : (s.setRam k v).cyc = s.cyc := rfl
@[simp] theorem setRam_ram (s : State) (k : Nat) (v : Byte) : (s.setRam k v).ram = s.ram.set k v := rfl
@[simp] theorem setRam_ie (s : State) (k : Nat) (v : Byte) : (s.setRam k v).ie = s.ie := rfl
@[simp] theorem setRam_sb (s : State) (k : Nat) (v : Byte) : (s.setRam k v).sb = s.sb := rfl
@[simp] theorem setRam_serialOut (s : State) (k : Nat) (v : Byte) : (s.setRam k v).serialOut = s.serialOut := rfl
@[simp] theorem setRam_cart (s : State) (k : Nat) (v : Byte) : (s.setRam k v).cart = s.cart := rfl

/-! ## mapCart -/

@[simp] theorem mapCart_a (s : State) (k : Cart → Cart) : (s.mapCart k).a = s.a := rfl
@[simp] theorem mapCart_f (s : State) (k : Cart → Cart) : (s.mapCart k).f = s.f := rfl
@[simp] theorem mapCart_b (s : State) (k : Cart → Cart) : (s.mapCart k).b = s.b := rfl
@[simp] theorem mapCart_c (s : State) (k : Cart → Cart) : (s.mapCart k).c = s.c := rfl
@[simp] theorem mapCart_d (s : State) (k : Cart → Cart) : (s.mapCart k).d = s.d := rfl
@[simp] theorem mapCart_e (s : State) (k : Cart → Cart) : (s.mapCart k).e = s.e := rfl
@[simp] theorem mapCart_h (s : State) (k : Cart → Cart) : (s.mapCart k).h = s.h := rfl
@[simp] theorem mapCart_l (s : State) (k : Cart → Cart) : (s.mapCart k).l = s.l := rfl
@[simp] theorem mapCart_sp (s : State) (k : Cart → Cart) : (s.mapCart k).sp = s.sp := rfl
@[simp] theorem mapCart_pc (s : State) (k : Cart → Cart) : (s.mapCart k).pc = s.pc := rfl
@[simp] theorem mapCart_cyc (s : State) (k : Cart → Cart) : (s.mapCart k).cyc = s.cyc := rfl
@[simp] theorem mapCart_ram (s : State) (k : Cart → Cart) : (s.mapCart k).ram = s.ram := rfl
@[simp] theorem mapCart_ie (s : State) (k : Cart → Cart) : (s.mapCart k).ie = s.ie := rfl
@[simp] theorem mapCart_sb (s : State) (k : Cart → Cart) : (s.mapCart k).sb = s.sb := rfl
@[simp] theorem mapCart_serialOut (s : State) (k : Cart → Cart) : (s.mapCart k).serialOut = s.serialOut := rfl
@[simp] theorem mapCart_cart (s : State) (k : Cart → Cart) : (s.mapCart k).cart = s.cart.map k := rfl

/-! ## load -/

@[simp] theorem load_a (s : State) (bytes : List Byte) (er : Memory) : (s.load bytes er).a = s.a := rfl
@[simp] theorem load_f (s : State) (bytes : List Byte) (er : Memory) : (s.load bytes er).f = s.f := rfl
@[simp] theorem load_b (s : State) (bytes : List Byte) (er : Memory) : (s.load bytes er).b = s.b := rfl
@[simp] theorem load_c (s : State) (bytes : List Byte) (er : Memory) : (s.load bytes er).c = s.c := rfl
@[simp] theorem load_d (s : State) (bytes : List Byte) (er : Memory) : (s.load bytes er).d = s.d := rfl
@[simp] theorem load_e (s : State) (bytes : List Byte) (er : Memory) : (s.load bytes er).e = s.e := rfl
@[simp] theorem load_h (s : State) (bytes : List Byte) (er : Memory) : (s.load bytes er).h = s.h := rfl
@[simp] theorem load_l (s : State) (bytes : List Byte) (er : Memory) : (s.load bytes er).l = s.l := rfl
@[simp] theorem load_sp (s : State) (bytes : List Byte) (er : Memory) : (s.load bytes er).sp = s.sp := rfl
@[simp] theorem load_pc (s : State) (bytes : List Byte) (er : Memory) : (s.load bytes er).pc = s.pc := rfl
@[simp] theorem load_cyc (s : State) (bytes : List Byte) (er : Memory) : (s.load bytes er).cyc = s.cyc := rfl
@[simp] theorem load_ram (s : State) (bytes : List Byte) (er : Memory) : (s.load bytes er).ram = s.ram := rfl
@[simp] theorem load_ie (s : State) (bytes : List Byte) (er : Memory) : (s.load bytes er).ie = s.ie := rfl
@[simp] theorem load_sb (s : State) (bytes : List Byte) (er : Memory) : (s.load bytes er).sb = s.sb := rfl
@[simp] theorem load_serialOut (s : State) (bytes : List Byte) (er : Memory) : (s.load bytes er).serialOut = s.serialOut := rfl
@[simp] theorem load_cart (s : State) (bytes : List Byte) (er : Memory) : (s.load bytes er).cart = some (Cart.ofImage (Image.ofBytes bytes) er) := rfl

/-! ## unload -/

@[simp] theorem unload_a (s : State) : (s.unload).a = s.a := rfl
@[simp] theorem unload_f (s : State) : (s.unload).f = s.f := rfl
@[simp] theorem unload_b (s : State) : (s.unload).b = s.b := rfl
@[simp] theorem unload_c (s : State) : (s.unload).c = s.c := rfl
@[simp] theorem unload_d (s : State) : (s.unload).d = s.d := rfl
@[simp] theorem unload_e (s : State) : (s.unload).e = s.e := rfl
@[simp] theorem unload_h (s : State) : (s.unload).h = s.h := rfl
@[simp] theorem unload_l (s : State) : (s.unload).l = s.l := rfl
@[simp] theorem unload_sp (s : State) : (s.unload).sp = s.sp := rfl
@[simp] theorem unload_pc (s : State) : (s.unload).pc = s.pc := rfl
@[simp] theorem unload_cyc (s : State) : (s.unload).cyc = s.cyc := rfl
@[simp] theorem unload_ram (s : State) : (s.unload).ram = s.ram := rfl
@[simp] theorem unload_ie (s : State) : (s.unload).ie = s.ie := rfl
@[simp] theorem unload_sb (s : State) : (s.unload).sb = s.sb := rfl
@[simp] theorem unload_serialOut (s : State) : (s.unload).serialOut = s.serialOut := rfl
@[simp] theorem unload_cart (s : State) : (s.unload).cart = none := rfl

/-! ## setPostBootRegs -/

@[simp] theorem setPostBootRegs_a (s : State) : (s.setPostBootRegs).a = 0x01 := rfl
@[simp] theorem setPostBootRegs_f (s : State) : (s.setPostBootRegs).f = 0xB0 := rfl
@[simp] theorem setPostBootRegs_b (s : State) : (s.setPostBootRegs).b = 0x00 := rfl
@[simp] theorem setPostBootRegs_c (s : State) : (s.setPostBootRegs).c = 0x13 := rfl
@[simp] theorem setPostBootRegs_d (s : State) : (s.setPostBootRegs).d = 0x00 := rfl
@[simp] theorem setPostBootRegs_e (s : State) : (s.setPostBootRegs).e = 0xD8 := rfl
@[simp] theorem setPostBootRegs_h (s : State) : (s.setPostBootRegs).h = 0x01 := rfl
@[simp] theorem setPostBootRegs_l (s : State) : (s.setPostBootRegs).l = 0x4D := rfl
@[simp] theorem setPostBootRegs_sp (s : State) : (s.setPostBootRegs).sp = 0xFFFE := rfl
@[simp] theorem setPostBootRegs_pc (s : State) : (s.setPostBootRegs).pc = 0x0100 := rfl
@[simp] theorem setPostBootRegs_cyc (s : State) : (s.setPostBootRegs).cyc = s.cyc := rfl
@[simp] theorem setPostBootRegs_ram (s : State) : (s.setPostBootRegs).ram = s.ram := rfl
@[simp] theorem setPostBootRegs_ie (s : State) : (s.setPostBootRegs).ie = s.ie := rfl
@[simp] theorem setPostBootRegs_sb (s : State) : (s.setPostBootRegs).sb = s.sb := rfl
@[simp] theorem setPostBootRegs_serialOut (s : State) : (s.setPostBootRegs).serialOut = s.serialOut := rfl
@[simp] theorem setPostBootRegs_cart (s : State) : (s.setPostBootRegs).cart = s.cart := rfl

/-! ## cpuInit -/

@[simp] theorem cpuInit_a (s : State) : (s.cpuInit).a = 0x01 := rfl
@[simp] theorem cpuInit_f (s : State) : (s.cpuInit).f = 0xB0 := rfl
@[simp] theorem cpuInit_b (s : State) : (s.cpuInit).b = 0x00 := rfl
@[simp] theorem cpuInit_c (s : State) : (s.cpuInit).c = 0x13 := rfl
@[simp] theorem cpuInit_d (s : State) : (s.cpuInit).d = 0x00 := rfl
@[simp] theorem cpuInit_e (s : State) : (s.cpuInit).e = 0xD8 := rfl
@[simp] theorem cpuInit_h (s : State) : (s.cpuInit).h = 0x01 := rfl
@[simp] theorem cpuInit_l (s : State) : (s.cpuInit).l = 0x4D := rfl
@[simp] theorem cpuInit_sp (s : State) : (s.cpuInit).sp = 0xFFFE := rfl
@[simp] theorem cpuInit_pc (s : State) : (s.cpuInit).pc = 0x0100 := rfl
@[simp] theorem cpuInit_cyc (s : State) : (s.cpuInit).cyc = 0 := rfl
@[simp] theorem cpuInit_ram (s : State) : (s.cpuInit).ram = s.ram := rfl
@[simp] theorem cpuInit_ie (s : State) : (s.cpuInit).ie = s.ie := rfl
@[simp] theorem cpuInit_sb (s : State) : (s.cpuInit).sb = s.sb := rfl
@[simp] theorem cpuInit_serialOut (s : State) : (s.cpuInit).serialOut = s.serialOut := rfl
@[simp] theorem cpuInit_cart (s : State) : (s.cpuInit).cart = s.cart := rfl

/-! ## busInit -/

@[simp] theorem busInit_a (s : State) (initMem : Memory) : (s.busInit initMem).a = s.a := rfl
@[simp] theorem busInit_f (s : State) (initMem : Memory) : (s.busInit initMem).f = s.f := rfl
@[simp] theorem busInit_b (s : State) (initMem : Memory) : (s.busInit initMem).b = s.b := rfl
@[simp] theorem busInit_c (s : State) (initMem : Memory) : (s.busInit initMem).c = s.c := rfl
@[simp] theorem busInit_d (s : State) (initMem : Memory) : (s.busInit initMem).d = s.d := rfl
@[simp] theorem busInit_e (s : State) (initMem : Memory) : (s.busInit initMem).e = s.e := rfl
@[simp] theorem busInit_h (s : State) (initMem : Memory) : (s.busInit initMem).h = s.h := rfl
@[simp] theorem busInit_l (s : State) (initMem : Memory) : (s.busInit initMem).l = s.l := rfl
@[simp] theorem busInit_sp (s : State) (initMem : Memory) : (s.busInit initMem).sp = s.sp := rfl
@[simp] theorem busInit_pc (s : State) (initMem : Memory) : (s.busInit initMem).pc = s.pc := rfl
@[simp] theorem busInit_cyc (s : State) (initMem : Memory) : (s.busInit initMem).cyc = s.cyc := rfl
@[simp] theorem busInit_ram (s : State) (initMem : Memory) : (s.busInit initMem).ram = initMem := rfl
@[simp] theorem busInit_ie (s : State) (initMem : Memory) : (s.busInit initMem).ie = 0x00 := rfl
@[simp] theorem busInit_sb (s : State) (initMem : Memory) : (s.busInit initMem).sb = 0x00 := rfl
@[simp] theorem busInit_serialOut (s : State) (initMem : Memory) : (s.busInit initMem).serialOut = [] := rfl
@[simp] theorem busInit_cart (s : State) (initMem : Memory) : (s.busInit initMem).cart = none := rfl

/-! ## The two initializations -/

/-- `init` is the bus initialization and then the CPU initialization (R455, R480, R482). -/
theorem busInit_cpuInit (s : State) (initMem : Memory) : (s.busInit initMem).cpuInit = State.init initMem := rfl

/-! ## setReg -/

@[simp] theorem setReg_f (s : State) (r : Reg8) (v : Byte) : (s.setReg r v).f = s.f := by cases r <;> rfl
@[simp] theorem setReg_sp (s : State) (r : Reg8) (v : Byte) : (s.setReg r v).sp = s.sp := by cases r <;> rfl
@[simp] theorem setReg_pc (s : State) (r : Reg8) (v : Byte) : (s.setReg r v).pc = s.pc := by cases r <;> rfl
@[simp] theorem setReg_cyc (s : State) (r : Reg8) (v : Byte) : (s.setReg r v).cyc = s.cyc := by cases r <;> rfl
@[simp] theorem setReg_ram (s : State) (r : Reg8) (v : Byte) : (s.setReg r v).ram = s.ram := by cases r <;> rfl
@[simp] theorem setReg_ie (s : State) (r : Reg8) (v : Byte) : (s.setReg r v).ie = s.ie := by cases r <;> rfl
@[simp] theorem setReg_sb (s : State) (r : Reg8) (v : Byte) : (s.setReg r v).sb = s.sb := by cases r <;> rfl
@[simp] theorem setReg_serialOut (s : State) (r : Reg8) (v : Byte) : (s.setReg r v).serialOut = s.serialOut := by cases r <;> rfl
@[simp] theorem setReg_cart (s : State) (r : Reg8) (v : Byte) : (s.setReg r v).cart = s.cart := by cases r <;> rfl

@[simp] theorem setReg_b (s : State) (r : Reg8) (v : Byte) : (s.setReg r v).b = if r = .b then v else s.b := by
  cases r <;> rfl
@[simp] theorem setReg_c (s : State) (r : Reg8) (v : Byte) : (s.setReg r v).c = if r = .c then v else s.c := by
  cases r <;> rfl
@[simp] theorem setReg_d (s : State) (r : Reg8) (v : Byte) : (s.setReg r v).d = if r = .d then v else s.d := by
  cases r <;> rfl
@[simp] theorem setReg_e (s : State) (r : Reg8) (v : Byte) : (s.setReg r v).e = if r = .e then v else s.e := by
  cases r <;> rfl
@[simp] theorem setReg_h (s : State) (r : Reg8) (v : Byte) : (s.setReg r v).h = if r = .h then v else s.h := by
  cases r <;> rfl
@[simp] theorem setReg_l (s : State) (r : Reg8) (v : Byte) : (s.setReg r v).l = if r = .l then v else s.l := by
  cases r <;> rfl
@[simp] theorem setReg_a (s : State) (r : Reg8) (v : Byte) : (s.setReg r v).a = if r = .a then v else s.a := by
  cases r <;> rfl

@[simp] theorem reg_setReg (s : State) (r q : Reg8) (v : Byte) : (s.setReg r v).reg q = if q = r then v else s.reg q := by
  cases r <;> cases q <;> rfl

/-! ## setPair and setStackPair -/

@[simp] theorem setPair_a (s : State) (r : Pair) (v : Word) : (s.setPair r v).a = s.a := by cases r <;> rfl
@[simp] theorem setPair_f (s : State) (r : Pair) (v : Word) : (s.setPair r v).f = s.f := by cases r <;> rfl
@[simp] theorem setPair_pc (s : State) (r : Pair) (v : Word) : (s.setPair r v).pc = s.pc := by cases r <;> rfl
@[simp] theorem setPair_cyc (s : State) (r : Pair) (v : Word) : (s.setPair r v).cyc = s.cyc := by cases r <;> rfl
@[simp] theorem setPair_ram (s : State) (r : Pair) (v : Word) : (s.setPair r v).ram = s.ram := by cases r <;> rfl
@[simp] theorem setPair_ie (s : State) (r : Pair) (v : Word) : (s.setPair r v).ie = s.ie := by cases r <;> rfl
@[simp] theorem setPair_sb (s : State) (r : Pair) (v : Word) : (s.setPair r v).sb = s.sb := by cases r <;> rfl
@[simp] theorem setPair_serialOut (s : State) (r : Pair) (v : Word) : (s.setPair r v).serialOut = s.serialOut := by cases r <;> rfl
@[simp] theorem setPair_cart (s : State) (r : Pair) (v : Word) : (s.setPair r v).cart = s.cart := by cases r <;> rfl

@[simp] theorem setStackPair_sp (s : State) (r : StackPair) (v : Word) : (s.setStackPair r v).sp = s.sp := by cases r <;> rfl
@[simp] theorem setStackPair_pc (s : State) (r : StackPair) (v : Word) : (s.setStackPair r v).pc = s.pc := by cases r <;> rfl
@[simp] theorem setStackPair_cyc (s : State) (r : StackPair) (v : Word) : (s.setStackPair r v).cyc = s.cyc := by cases r <;> rfl
@[simp] theorem setStackPair_ram (s : State) (r : StackPair) (v : Word) : (s.setStackPair r v).ram = s.ram := by cases r <;> rfl
@[simp] theorem setStackPair_ie (s : State) (r : StackPair) (v : Word) : (s.setStackPair r v).ie = s.ie := by cases r <;> rfl
@[simp] theorem setStackPair_sb (s : State) (r : StackPair) (v : Word) : (s.setStackPair r v).sb = s.sb := by cases r <;> rfl
@[simp] theorem setStackPair_serialOut (s : State) (r : StackPair) (v : Word) : (s.setStackPair r v).serialOut = s.serialOut := by cases r <;> rfl
@[simp] theorem setStackPair_cart (s : State) (r : StackPair) (v : Word) : (s.setStackPair r v).cart = s.cart := by cases r <;> rfl

/-! ## deliver: a write changes bus storage, the cartridge and the serial stub, no register -/

@[simp] theorem ioWrite_a (s : State) (x : Word) (v : Byte) : (s.ioWrite x v).a = s.a := by
  unfold State.ioWrite; split <;> [rfl; (split <;> rfl)]
@[simp] theorem deliver_a (s : State) (x : Word) (v : Byte) : (s.deliver x v).a = s.a := by
  unfold State.deliver; split <;> first | rfl | simp
@[simp] theorem ioWrite_f (s : State) (x : Word) (v : Byte) : (s.ioWrite x v).f = s.f := by
  unfold State.ioWrite; split <;> [rfl; (split <;> rfl)]
@[simp] theorem deliver_f (s : State) (x : Word) (v : Byte) : (s.deliver x v).f = s.f := by
  unfold State.deliver; split <;> first | rfl | simp
@[simp] theorem ioWrite_b (s : State) (x : Word) (v : Byte) : (s.ioWrite x v).b = s.b := by
  unfold State.ioWrite; split <;> [rfl; (split <;> rfl)]
@[simp] theorem deliver_b (s : State) (x : Word) (v : Byte) : (s.deliver x v).b = s.b := by
  unfold State.deliver; split <;> first | rfl | simp
@[simp] theorem ioWrite_c (s : State) (x : Word) (v : Byte) : (s.ioWrite x v).c = s.c := by
  unfold State.ioWrite; split <;> [rfl; (split <;> rfl)]
@[simp] theorem deliver_c (s : State) (x : Word) (v : Byte) : (s.deliver x v).c = s.c := by
  unfold State.deliver; split <;> first | rfl | simp
@[simp] theorem ioWrite_d (s : State) (x : Word) (v : Byte) : (s.ioWrite x v).d = s.d := by
  unfold State.ioWrite; split <;> [rfl; (split <;> rfl)]
@[simp] theorem deliver_d (s : State) (x : Word) (v : Byte) : (s.deliver x v).d = s.d := by
  unfold State.deliver; split <;> first | rfl | simp
@[simp] theorem ioWrite_e (s : State) (x : Word) (v : Byte) : (s.ioWrite x v).e = s.e := by
  unfold State.ioWrite; split <;> [rfl; (split <;> rfl)]
@[simp] theorem deliver_e (s : State) (x : Word) (v : Byte) : (s.deliver x v).e = s.e := by
  unfold State.deliver; split <;> first | rfl | simp
@[simp] theorem ioWrite_h (s : State) (x : Word) (v : Byte) : (s.ioWrite x v).h = s.h := by
  unfold State.ioWrite; split <;> [rfl; (split <;> rfl)]
@[simp] theorem deliver_h (s : State) (x : Word) (v : Byte) : (s.deliver x v).h = s.h := by
  unfold State.deliver; split <;> first | rfl | simp
@[simp] theorem ioWrite_l (s : State) (x : Word) (v : Byte) : (s.ioWrite x v).l = s.l := by
  unfold State.ioWrite; split <;> [rfl; (split <;> rfl)]
@[simp] theorem deliver_l (s : State) (x : Word) (v : Byte) : (s.deliver x v).l = s.l := by
  unfold State.deliver; split <;> first | rfl | simp
@[simp] theorem ioWrite_sp (s : State) (x : Word) (v : Byte) : (s.ioWrite x v).sp = s.sp := by
  unfold State.ioWrite; split <;> [rfl; (split <;> rfl)]
@[simp] theorem deliver_sp (s : State) (x : Word) (v : Byte) : (s.deliver x v).sp = s.sp := by
  unfold State.deliver; split <;> first | rfl | simp
@[simp] theorem ioWrite_pc (s : State) (x : Word) (v : Byte) : (s.ioWrite x v).pc = s.pc := by
  unfold State.ioWrite; split <;> [rfl; (split <;> rfl)]
@[simp] theorem deliver_pc (s : State) (x : Word) (v : Byte) : (s.deliver x v).pc = s.pc := by
  unfold State.deliver; split <;> first | rfl | simp
@[simp] theorem ioWrite_cyc (s : State) (x : Word) (v : Byte) : (s.ioWrite x v).cyc = s.cyc := by
  unfold State.ioWrite; split <;> [rfl; (split <;> rfl)]
@[simp] theorem deliver_cyc (s : State) (x : Word) (v : Byte) : (s.deliver x v).cyc = s.cyc := by
  unfold State.deliver; split <;> first | rfl | simp

@[simp] theorem ioWrite_ram (s : State) (x : Word) (v : Byte) : (s.ioWrite x v).ram = s.ram := by
  unfold State.ioWrite; split <;> [rfl; (split <;> rfl)]

@[simp] theorem ioWrite_ie (s : State) (x : Word) (v : Byte) : (s.ioWrite x v).ie = s.ie := by
  unfold State.ioWrite; split <;> [rfl; (split <;> rfl)]

@[simp] theorem ioWrite_cart (s : State) (x : Word) (v : Byte) : (s.ioWrite x v).cart = s.cart := by
  unfold State.ioWrite; split <;> [rfl; (split <;> rfl)]

/-- A write never loads or unloads the cartridge. -/
@[simp] theorem deliver_cart_isSome (s : State) (x : Word) (v : Byte) : (s.deliver x v).cart.isSome = s.cart.isSome := by
  unfold State.deliver; split <;> simp

@[simp] theorem deliver_windowOpen (s : State) (x y : Word) (v : Byte) : (s.deliver x v).windowOpen y = s.windowOpen y := by
  simp [State.windowOpen]

/-! ## Words and bytes -/

@[simp] theorem hiByte_join (x y : Byte) : hiByte (join x y) = x := by
  apply BitVec.eq_of_getLsbD_eq; intro i hi
  simp [hiByte, join, hi, show 8 + i < 16 by omega]

@[simp] theorem loByte_join (x y : Byte) : loByte (join x y) = y := by
  apply BitVec.eq_of_getLsbD_eq; intro i hi
  simp [loByte, join, hi]
  intro h; omega

@[simp] theorem join_hi_lo (v : Word) : join (hiByte v) (loByte v) = v := by
  apply BitVec.eq_of_getLsbD_eq; intro i hi
  by_cases h : i < 8
  · simp [hiByte, loByte, join, hi, h]
  · simp [hiByte, loByte, join, hi, h, show i - 8 < 8 by omega, show 8 + (i - 8) = i by omega]

end Sys2Proof.Machine
end

