-- ==== Sys2Proof/Laws/Forms.lean ====
section
/-! SUPPORT. `exec` by the rules' shared forms: which meaning the row of a form runs, and one case rule for all the
instructions, so that a proof about every instruction treats each shared meaning once. -/

namespace Sys2Proof.Machine

/-! ## What `exec` runs on a form -/

theorem exec_ldReg (dst src : Reg8) (s : State) : exec (Form.ldReg dst src) s = ldRegReg dst src s := by
  cases dst <;> cases src <;> rfl

theorem exec_ldFromHl (dst : Reg8) (s : State) : exec (Form.ldFromHl dst) s = ldRegFrom dst s.hl 1 2 s := by
  cases dst <;> rfl

theorem exec_ldToHl (src : Reg8) (s : State) : exec (Form.ldToHl src) s = ldTo s.hl (s.reg src) 1 2 s := by
  cases src <;> rfl

theorem exec_ldRegImm (dst : Reg8) (d8 : Byte) (s : State) : exec (Form.ldRegImm dst d8) s = ldRegImm dst d8 s := by
  cases dst <;> rfl

theorem exec_ldPair (rr : Pair) (d16 : Word) (s : State) : exec (Form.ldPair rr d16) s = ldPairImm rr d16 s := by
  cases rr <;> rfl

theorem exec_incPair (rr : Pair) (s : State) : exec (Form.incPair rr) s = addToPair rr 1 s := by
  cases rr <;> rfl

theorem exec_decPair (rr : Pair) (s : State) : exec (Form.decPair rr) s = addToPair rr (-1) s := by
  cases rr <;> rfl

theorem exec_addHl (rr : Pair) (s : State) : exec (Form.addHl rr) s = addHlPair rr s := by
  cases rr <;> rfl

theorem exec_push (qq : StackPair) (s : State) : exec (Form.push qq) s = pushPair qq s := by
  cases qq <;> rfl

theorem exec_pop (qq : StackPair) (s : State) : exec (Form.pop qq) s = popPair qq s := by
  cases qq <;> rfl

theorem exec_inc (o : Operand8) (s : State) : exec (Form.inc o) s = incOperand o s := by
  rcases o with r | _
  · cases r <;> rfl
  · rfl

theorem exec_dec (o : Operand8) (s : State) : exec (Form.dec o) s = decOperand o s := by
  rcases o with r | _
  · cases r <;> rfl
  · rfl

theorem exec_alu (op : AluOp) (o : Operand8) (s : State) : exec (Form.alu op o) s = aluOperand op o s := by
  rcases o with r | _
  · cases op <;> cases r <;> rfl
  · cases op <;> rfl

theorem exec_aluImm (op : AluOp) (d8 : Byte) (s : State) : exec (Form.aluImm op d8) s = aluImm op d8 s := by
  cases op <;> rfl

theorem exec_accRotate (k : AccRotate) (s : State) : exec (Form.accRotate k) s = accRotate k s := by
  cases k <;> rfl

theorem exec_jrCc (cc : Cond) (e8 : Byte) (s : State) : exec (Form.jrCc cc e8) s = jumpRelCc cc e8 s := by
  cases cc <;> rfl

theorem exec_jpCc (cc : Cond) (a16 : Word) (s : State) : exec (Form.jpCc cc a16) s = jumpAbsCc cc a16 s := by
  cases cc <;> rfl

theorem exec_callCc (cc : Cond) (a16 : Word) (s : State) : exec (Form.callCc cc a16) s = callAbsCc cc a16 s := by
  cases cc <;> rfl

theorem exec_retCc (cc : Cond) (s : State) : exec (Form.retCc cc) s = returnCc cc s := by
  cases cc <;> rfl

/-- A statement about every 3-bit number. -/
theorem forall_bitVec3 {P : BitVec 3 → Prop} (h : ∀ k : Fin 8, P (BitVec.ofFin k)) (n : BitVec 3) : P n := h n.toFin

theorem exec_rst (y : BitVec 3) (s : State) : exec (Form.rst y) s = restart (BitVec.ofNat 16 (y.toNat * 8)) s := by
  revert y; apply forall_bitVec3; intro k; fin_cases k <;> rfl

theorem exec_shift (op : ShiftOp) (o : Operand8) (s : State) : exec (Form.shift op o) s = cbShift op o s := by
  rcases o with r | _
  · cases op <;> cases r <;> rfl
  · cases op <;> rfl

theorem exec_bit (n : BitVec 3) (o : Operand8) (s : State) : exec (Form.bit n o) s = cbBit n o s := by
  revert n; apply forall_bitVec3; intro k
  rcases o with r | _
  · fin_cases k <;> cases r <;> rfl
  · fin_cases k <;> rfl

theorem exec_res (n : BitVec 3) (o : Operand8) (s : State) : exec (Form.res n o) s = cbRes n o s := by
  revert n; apply forall_bitVec3; intro k
  rcases o with r | _
  · fin_cases k <;> cases r <;> rfl
  · fin_cases k <;> rfl

theorem exec_set (n : BitVec 3) (o : Operand8) (s : State) : exec (Form.set n o) s = cbSet n o s := by
  revert n; apply forall_bitVec3; intro k
  rcases o with r | _
  · fin_cases k <;> cases r <;> rfl
  · fin_cases k <;> rfl

theorem exec_undef (u : UndefSlot) (s : State) :
    exec (Form.undef u) s = undefUnder Config.undefPolicy (undefCode u) s := by
  cases u <;> rfl

/-! ## One case rule for all the instructions -/

/-- What holds of every shared meaning holds of every instruction. -/
theorem exec_by_form {P : Result → Prop} (s : State)
    (ldRegReg_case : ∀ dst src, P (ldRegReg dst src s))
    (ldRegImm_case : ∀ dst d8, P (ldRegImm dst d8 s))
    (ldRegFrom_case : ∀ dst a len m, 1 ≤ m.toNat ∧ m.toNat ≤ 6 → P (ldRegFrom dst a len m s))
    (ldTo_case : ∀ a v len m, 1 ≤ m.toNat ∧ m.toNat ≤ 6 → P (ldTo a v len m s))
    (ldTo16_case : ∀ a v len m, 1 ≤ m.toNat ∧ m.toNat ≤ 6 → P (ldTo16 a v len m s))
    (ldToHlStep_case : ∀ step, P (ldToHlStep step s))
    (ldFromHlStep_case : ∀ step, P (ldFromHlStep step s))
    (ldPairImm_case : ∀ rr d16, P (ldPairImm rr d16 s))
    (ldSpFromHl_case : P (ldSpFromHl s))
    (pushPair_case : ∀ qq, P (pushPair qq s))
    (popPair_case : ∀ qq, P (popPair qq s))
    (aluOperand_case : ∀ op o, P (aluOperand op o s))
    (aluImm_case : ∀ op d8, P (aluImm op d8 s))
    (incOperand_case : ∀ o, P (incOperand o s))
    (decOperand_case : ∀ o, P (decOperand o s))
    (addHlPair_case : ∀ rr, P (addHlPair rr s))
    (addToPair_case : ∀ rr step, P (addToPair rr step s))
    (adjustSp_case : ∀ e8, P (adjustSp e8 s))
    (ldHlAdjusted_case : ∀ e8, P (ldHlAdjusted e8 s))
    (accRotate_case : ∀ k, P (accRotate k s))
    (decimalAdjust_case : P (decimalAdjust s))
    (complementA_case : P (complementA s))
    (setCarry_case : P (setCarry s))
    (complementCarry_case : P (complementCarry s))
    (jumpAbs_case : ∀ a16, P (jumpAbs a16 s))
    (jumpAbsCc_case : ∀ cc a16, P (jumpAbsCc cc a16 s))
    (jumpHl_case : P (jumpHl s))
    (jumpRel_case : ∀ e8, P (jumpRel e8 s))
    (jumpRelCc_case : ∀ cc e8, P (jumpRelCc cc e8 s))
    (callAbs_case : ∀ a16, P (callAbs a16 s))
    (callAbsCc_case : ∀ cc a16, P (callAbsCc cc a16 s))
    (returnFrom_case : P (returnFrom s))
    (returnCc_case : ∀ cc, P (returnCc cc s))
    (restart_case : ∀ t, P (restart t s))
    (idle_case : P (idle s))
    (haltUnder_case : P (haltUnder Config.haltPolicy s))
    (undefUnder_case : ∀ op, P (undefUnder Config.undefPolicy op s))
    (cbShift_case : ∀ op o, P (cbShift op o s))
    (cbBit_case : ∀ n o, P (cbBit n o s))
    (cbRes_case : ∀ n o, P (cbRes n o s))
    (cbSet_case : ∀ n o, P (cbSet n o s))
    (secondary_case : ∀ n, P (secondary n s))
    (i : Instr) : P (exec i s) := by
  cases i with
  | nop => exact idle_case
  | ldBcD16 d16 => exact ldPairImm_case .bc d16
  | ldIndBcA => exact ldTo_case s.bc s.a 1 2 (by decide)
  | incBc => exact addToPair_case .bc 1
  | incB => exact incOperand_case (.reg .b)
  | decB => exact decOperand_case (.reg .b)
  | ldBD8 d8 => exact ldRegImm_case .b d8
  | rlca => exact accRotate_case .rlca
  | ldIndA16Sp a16 => exact ldTo16_case a16 s.sp 3 5 (by decide)
  | addHlBc => exact addHlPair_case .bc
  | ldAIndBc => exact ldRegFrom_case .a s.bc 1 2 (by decide)
  | decBc => exact addToPair_case .bc (-1)
  | incC => exact incOperand_case (.reg .c)
  | decC => exact decOperand_case (.reg .c)
  | ldCD8 d8 => exact ldRegImm_case .c d8
  | rrca => exact accRotate_case .rrca
  | stop => exact idle_case
  | ldDeD16 d16 => exact ldPairImm_case .de d16
  | ldIndDeA => exact ldTo_case s.de s.a 1 2 (by decide)
  | incDe => exact addToPair_case .de 1
  | incD => exact incOperand_case (.reg .d)
  | decD => exact decOperand_case (.reg .d)
  | ldDD8 d8 => exact ldRegImm_case .d d8
  | rla => exact accRotate_case .rla
  | jrE8 e8 => exact jumpRel_case e8
  | addHlDe => exact addHlPair_case .de
  | ldAIndDe => exact ldRegFrom_case .a s.de 1 2 (by decide)
  | decDe => exact addToPair_case .de (-1)
  | incE => exact incOperand_case (.reg .e)
  | decE => exact decOperand_case (.reg .e)
  | ldED8 d8 => exact ldRegImm_case .e d8
  | rra => exact accRotate_case .rra
  | jrNzE8 e8 => exact jumpRelCc_case .nz e8
  | ldHlD16 d16 => exact ldPairImm_case .hl d16
  | ldIndHlIncA => exact ldToHlStep_case 1
  | incHl => exact addToPair_case .hl 1
  | incH => exact incOperand_case (.reg .h)
  | decH => exact decOperand_case (.reg .h)
  | ldHD8 d8 => exact ldRegImm_case .h d8
  | daa => exact decimalAdjust_case
  | jrZE8 e8 => exact jumpRelCc_case .z e8
  | addHlHl => exact addHlPair_case .hl
  | ldAIndHlInc => exact ldFromHlStep_case 1
  | decHl => exact addToPair_case .hl (-1)
  | incL => exact incOperand_case (.reg .l)
  | decL => exact decOperand_case (.reg .l)
  | ldLD8 d8 => exact ldRegImm_case .l d8
  | cpl => exact complementA_case
  | jrNcE8 e8 => exact jumpRelCc_case .nc e8
  | ldSpD16 d16 => exact ldPairImm_case .sp d16
  | ldIndHlDecA => exact ldToHlStep_case (-1)
  | incSp => exact addToPair_case .sp 1
  | incIndHl => exact incOperand_case .indHl
  | decIndHl => exact decOperand_case .indHl
  | ldIndHlD8 d8 => exact ldTo_case s.hl d8 2 3 (by decide)
  | scf => exact setCarry_case
  | jrCE8 e8 => exact jumpRelCc_case .c e8
  | addHlSp => exact addHlPair_case .sp
  | ldAIndHlDec => exact ldFromHlStep_case (-1)
  | decSp => exact addToPair_case .sp (-1)
  | incA => exact incOperand_case (.reg .a)
  | decA => exact decOperand_case (.reg .a)
  | ldAD8 d8 => exact ldRegImm_case .a d8
  | ccf => exact complementCarry_case
  | ldBB => exact ldRegReg_case .b .b
  | ldBC => exact ldRegReg_case .b .c
  | ldBD => exact ldRegReg_case .b .d
  | ldBE => exact ldRegReg_case .b .e
  | ldBH => exact ldRegReg_case .b .h
  | ldBL => exact ldRegReg_case .b .l
  | ldBIndHl => exact ldRegFrom_case .b s.hl 1 2 (by decide)
  | ldBA => exact ldRegReg_case .b .a
  | ldCB => exact ldRegReg_case .c .b
  | ldCC => exact ldRegReg_case .c .c
  | ldCD => exact ldRegReg_case .c .d
  | ldCE => exact ldRegReg_case .c .e
  | ldCH => exact ldRegReg_case .c .h
  | ldCL => exact ldRegReg_case .c .l
  | ldCIndHl => exact ldRegFrom_case .c s.hl 1 2 (by decide)
  | ldCA => exact ldRegReg_case .c .a
  | ldDB => exact ldRegReg_case .d .b
  | ldDC => exact ldRegReg_case .d .c
  | ldDD => exact ldRegReg_case .d .d
  | ldDE => exact ldRegReg_case .d .e
  | ldDH => exact ldRegReg_case .d .h
  | ldDL => exact ldRegReg_case .d .l
  | ldDIndHl => exact ldRegFrom_case .d s.hl 1 2 (by decide)
  | ldDA => exact ldRegReg_case .d .a
  | ldEB => exact ldRegReg_case .e .b
  | ldEC => exact ldRegReg_case .e .c
  | ldED => exact ldRegReg_case .e .d
  | ldEE => exact ldRegReg_case .e .e
  | ldEH => exact ldRegReg_case .e .h
  | ldEL => exact ldRegReg_case .e .l
  | ldEIndHl => exact ldRegFrom_case .e s.hl 1 2 (by decide)
  | ldEA => exact ldRegReg_case .e .a
  | ldHB => exact ldRegReg_case .h .b
  | ldHC => exact ldRegReg_case .h .c
  | ldHD => exact ldRegReg_case .h .d
  | ldHE => exact ldRegReg_case .h .e
  | ldHH => exact ldRegReg_case .h .h
  | ldHL => exact ldRegReg_case .h .l
  | ldHIndHl => exact ldRegFrom_case .h s.hl 1 2 (by decide)
  | ldHA => exact ldRegReg_case .h .a
  | ldLB => exact ldRegReg_case .l .b
  | ldLC => exact ldRegReg_case .l .c
  | ldLD => exact ldRegReg_case .l .d
  | ldLE => exact ldRegReg_case .l .e
  | ldLH => exact ldRegReg_case .l .h
  | ldLL => exact ldRegReg_case .l .l
  | ldLIndHl => exact ldRegFrom_case .l s.hl 1 2 (by decide)
  | ldLA => exact ldRegReg_case .l .a
  | ldIndHlB => exact ldTo_case s.hl (s.reg .b) 1 2 (by decide)
  | ldIndHlC => exact ldTo_case s.hl (s.reg .c) 1 2 (by decide)
  | ldIndHlD => exact ldTo_case s.hl (s.reg .d) 1 2 (by decide)
  | ldIndHlE => exact ldTo_case s.hl (s.reg .e) 1 2 (by decide)
  | ldIndHlH => exact ldTo_case s.hl (s.reg .h) 1 2 (by decide)
  | ldIndHlL => exact ldTo_case s.hl (s.reg .l) 1 2 (by decide)
  | halt => exact haltUnder_case
  | ldIndHlA => exact ldTo_case s.hl (s.reg .a) 1 2 (by decide)
  | ldAB => exact ldRegReg_case .a .b
  | ldAC => exact ldRegReg_case .a .c
  | ldAD => exact ldRegReg_case .a .d
  | ldAE => exact ldRegReg_case .a .e
  | ldAH => exact ldRegReg_case .a .h
  | ldAL => exact ldRegReg_case .a .l
  | ldAIndHl => exact ldRegFrom_case .a s.hl 1 2 (by decide)
  | ldAA => exact ldRegReg_case .a .a
  | addAB => exact aluOperand_case .add (.reg .b)
  | addAC => exact aluOperand_case .add (.reg .c)
  | addAD => exact aluOperand_case .add (.reg .d)
  | addAE => exact aluOperand_case .add (.reg .e)
  | addAH => exact aluOperand_case .add (.reg .h)
  | addAL => exact aluOperand_case .add (.reg .l)
  | addAIndHl => exact aluOperand_case .add .indHl
  | addAA => exact aluOperand_case .add (.reg .a)
  | adcAB => exact aluOperand_case .adc (.reg .b)
  | adcAC => exact aluOperand_case .adc (.reg .c)
  | adcAD => exact aluOperand_case .adc (.reg .d)
  | adcAE => exact aluOperand_case .adc (.reg .e)
  | adcAH => exact aluOperand_case .adc (.reg .h)
  | adcAL => exact aluOperand_case .adc (.reg .l)
  | adcAIndHl => exact aluOperand_case .adc .indHl
  | adcAA => exact aluOperand_case .adc (.reg .a)
  | subB => exact aluOperand_case .sub (.reg .b)
  | subC => exact aluOperand_case .sub (.reg .c)
  | subD => exact aluOperand_case .sub (.reg .d)
  | subE => exact aluOperand_case .sub (.reg .e)
  | subH => exact aluOperand_case .sub (.reg .h)
  | subL => exact aluOperand_case .sub (.reg .l)
  | subIndHl => exact aluOperand_case .sub .indHl
  | subA => exact aluOperand_case .sub (.reg .a)
  | sbcAB => exact aluOperand_case .sbc (.reg .b)
  | sbcAC => exact aluOperand_case .sbc (.reg .c)
  | sbcAD => exact aluOperand_case .sbc (.reg .d)
  | sbcAE => exact aluOperand_case .sbc (.reg .e)
  | sbcAH => exact aluOperand_case .sbc (.reg .h)
  | sbcAL => exact aluOperand_case .sbc (.reg .l)
  | sbcAIndHl => exact aluOperand_case .sbc .indHl
  | sbcAA => exact aluOperand_case .sbc (.reg .a)
  | andB => exact aluOperand_case .and (.reg .b)
  | andC => exact aluOperand_case .and (.reg .c)
  | andD => exact aluOperand_case .and (.reg .d)
  | andE => exact aluOperand_case .and (.reg .e)
  | andH => exact aluOperand_case .and (.reg .h)
  | andL => exact aluOperand_case .and (.reg .l)
  | andIndHl => exact aluOperand_case .and .indHl
  | andA => exact aluOperand_case .and (.reg .a)
  | xorB => exact aluOperand_case .xor (.reg .b)
  | xorC => exact aluOperand_case .xor (.reg .c)
  | xorD => exact aluOperand_case .xor (.reg .d)
  | xorE => exact aluOperand_case .xor (.reg .e)
  | xorH => exact aluOperand_case .xor (.reg .h)
  | xorL => exact aluOperand_case .xor (.reg .l)
  | xorIndHl => exact aluOperand_case .xor .indHl
  | xorA => exact aluOperand_case .xor (.reg .a)
  | orB => exact aluOperand_case .or (.reg .b)
  | orC => exact aluOperand_case .or (.reg .c)
  | orD => exact aluOperand_case .or (.reg .d)
  | orE => exact aluOperand_case .or (.reg .e)
  | orH => exact aluOperand_case .or (.reg .h)
  | orL => exact aluOperand_case .or (.reg .l)
  | orIndHl => exact aluOperand_case .or .indHl
  | orA => exact aluOperand_case .or (.reg .a)
  | cpB => exact aluOperand_case .cp (.reg .b)
  | cpC => exact aluOperand_case .cp (.reg .c)
  | cpD => exact aluOperand_case .cp (.reg .d)
  | cpE => exact aluOperand_case .cp (.reg .e)
  | cpH => exact aluOperand_case .cp (.reg .h)
  | cpL => exact aluOperand_case .cp (.reg .l)
  | cpIndHl => exact aluOperand_case .cp .indHl
  | cpA => exact aluOperand_case .cp (.reg .a)
  | retNz => exact returnCc_case .nz
  | popBc => exact popPair_case .bc
  | jpNzA16 a16 => exact jumpAbsCc_case .nz a16
  | jpA16 a16 => exact jumpAbs_case a16
  | callNzA16 a16 => exact callAbsCc_case .nz a16
  | pushBc => exact pushPair_case .bc
  | addAD8 d8 => exact aluImm_case .add d8
  | rst00 => exact restart_case 0x00
  | retZ => exact returnCc_case .z
  | ret => exact returnFrom_case
  | jpZA16 a16 => exact jumpAbsCc_case .z a16
  | prefixCb n => exact secondary_case n
  | callZA16 a16 => exact callAbsCc_case .z a16
  | callA16 a16 => exact callAbs_case a16
  | adcAD8 d8 => exact aluImm_case .adc d8
  | rst08 => exact restart_case 0x08
  | retNc => exact returnCc_case .nc
  | popDe => exact popPair_case .de
  | jpNcA16 a16 => exact jumpAbsCc_case .nc a16
  | undefD3 => exact undefUnder_case 0xD3
  | callNcA16 a16 => exact callAbsCc_case .nc a16
  | pushDe => exact pushPair_case .de
  | subD8 d8 => exact aluImm_case .sub d8
  | rst10 => exact restart_case 0x10
  | retC => exact returnCc_case .c
  | reti => exact returnFrom_case
  | jpCA16 a16 => exact jumpAbsCc_case .c a16
  | undefDB => exact undefUnder_case 0xDB
  | callCA16 a16 => exact callAbsCc_case .c a16
  | undefDD => exact undefUnder_case 0xDD
  | sbcAD8 d8 => exact aluImm_case .sbc d8
  | rst18 => exact restart_case 0x18
  | ldhIndA8A a8 => exact ldTo_case (highPage a8) s.a 2 3 (by decide)
  | popHl => exact popPair_case .hl
  | ldIndCA => exact ldTo_case (highPage s.c) s.a 1 2 (by decide)
  | undefE3 => exact undefUnder_case 0xE3
  | undefE4 => exact undefUnder_case 0xE4
  | pushHl => exact pushPair_case .hl
  | andD8 d8 => exact aluImm_case .and d8
  | rst20 => exact restart_case 0x20
  | addSpE8 e8 => exact adjustSp_case e8
  | jpHl => exact jumpHl_case
  | ldIndA16A a16 => exact ldTo_case a16 s.a 3 4 (by decide)
  | undefEB => exact undefUnder_case 0xEB
  | undefEC => exact undefUnder_case 0xEC
  | undefED => exact undefUnder_case 0xED
  | xorD8 d8 => exact aluImm_case .xor d8
  | rst28 => exact restart_case 0x28
  | ldhAIndA8 a8 => exact ldRegFrom_case .a (highPage a8) 2 3 (by decide)
  | popAf => exact popPair_case .af
  | ldAIndC => exact ldRegFrom_case .a (highPage s.c) 1 2 (by decide)
  | di => exact idle_case
  | undefF4 => exact undefUnder_case 0xF4
  | pushAf => exact pushPair_case .af
  | orD8 d8 => exact aluImm_case .or d8
  | rst30 => exact restart_case 0x30
  | ldHlSpE8 e8 => exact ldHlAdjusted_case e8
  | ldSpHl => exact ldSpFromHl_case
  | ldAIndA16 a16 => exact ldRegFrom_case .a a16 3 4 (by decide)
  | ei => exact idle_case
  | undefFC => exact undefUnder_case 0xFC
  | undefFD => exact undefUnder_case 0xFD
  | cpD8 d8 => exact aluImm_case .cp d8
  | rst38 => exact restart_case 0x38
  | rlcB => exact cbShift_case .rlc (.reg .b)
  | rlcC => exact cbShift_case .rlc (.reg .c)
  | rlcD => exact cbShift_case .rlc (.reg .d)
  | rlcE => exact cbShift_case .rlc (.reg .e)
  | rlcH => exact cbShift_case .rlc (.reg .h)
  | rlcL => exact cbShift_case .rlc (.reg .l)
  | rlcIndHl => exact cbShift_case .rlc .indHl
  | rlcA => exact cbShift_case .rlc (.reg .a)
  | rrcB => exact cbShift_case .rrc (.reg .b)
  | rrcC => exact cbShift_case .rrc (.reg .c)
  | rrcD => exact cbShift_case .rrc (.reg .d)
  | rrcE => exact cbShift_case .rrc (.reg .e)
  | rrcH => exact cbShift_case .rrc (.reg .h)
  | rrcL => exact cbShift_case .rrc (.reg .l)
  | rrcIndHl => exact cbShift_case .rrc .indHl
  | rrcA => exact cbShift_case .rrc (.reg .a)
  | rlB => exact cbShift_case .rl (.reg .b)
  | rlC => exact cbShift_case .rl (.reg .c)
  | rlD => exact cbShift_case .rl (.reg .d)
  | rlE => exact cbShift_case .rl (.reg .e)
  | rlH => exact cbShift_case .rl (.reg .h)
  | rlL => exact cbShift_case .rl (.reg .l)
  | rlIndHl => exact cbShift_case .rl .indHl
  | rlA => exact cbShift_case .rl (.reg .a)
  | rrB => exact cbShift_case .rr (.reg .b)
  | rrC => exact cbShift_case .rr (.reg .c)
  | rrD => exact cbShift_case .rr (.reg .d)
  | rrE => exact cbShift_case .rr (.reg .e)
  | rrH => exact cbShift_case .rr (.reg .h)
  | rrL => exact cbShift_case .rr (.reg .l)
  | rrIndHl => exact cbShift_case .rr .indHl
  | rrA => exact cbShift_case .rr (.reg .a)
  | slaB => exact cbShift_case .sla (.reg .b)
  | slaC => exact cbShift_case .sla (.reg .c)
  | slaD => exact cbShift_case .sla (.reg .d)
  | slaE => exact cbShift_case .sla (.reg .e)
  | slaH => exact cbShift_case .sla (.reg .h)
  | slaL => exact cbShift_case .sla (.reg .l)
  | slaIndHl => exact cbShift_case .sla .indHl
  | slaA => exact cbShift_case .sla (.reg .a)
  | sraB => exact cbShift_case .sra (.reg .b)
  | sraC => exact cbShift_case .sra (.reg .c)
  | sraD => exact cbShift_case .sra (.reg .d)
  | sraE => exact cbShift_case .sra (.reg .e)
  | sraH => exact cbShift_case .sra (.reg .h)
  | sraL => exact cbShift_case .sra (.reg .l)
  | sraIndHl => exact cbShift_case .sra .indHl
  | sraA => exact cbShift_case .sra (.reg .a)
  | swapB => exact cbShift_case .swap (.reg .b)
  | swapC => exact cbShift_case .swap (.reg .c)
  | swapD => exact cbShift_case .swap (.reg .d)
  | swapE => exact cbShift_case .swap (.reg .e)
  | swapH => exact cbShift_case .swap (.reg .h)
  | swapL => exact cbShift_case .swap (.reg .l)
  | swapIndHl => exact cbShift_case .swap .indHl
  | swapA => exact cbShift_case .swap (.reg .a)
  | srlB => exact cbShift_case .srl (.reg .b)
  | srlC => exact cbShift_case .srl (.reg .c)
  | srlD => exact cbShift_case .srl (.reg .d)
  | srlE => exact cbShift_case .srl (.reg .e)
  | srlH => exact cbShift_case .srl (.reg .h)
  | srlL => exact cbShift_case .srl (.reg .l)
  | srlIndHl => exact cbShift_case .srl .indHl
  | srlA => exact cbShift_case .srl (.reg .a)
  | bit0B => exact cbBit_case 0 (.reg .b)
  | bit0C => exact cbBit_case 0 (.reg .c)
  | bit0D => exact cbBit_case 0 (.reg .d)
  | bit0E => exact cbBit_case 0 (.reg .e)
  | bit0H => exact cbBit_case 0 (.reg .h)
  | bit0L => exact cbBit_case 0 (.reg .l)
  | bit0IndHl => exact cbBit_case 0 .indHl
  | bit0A => exact cbBit_case 0 (.reg .a)
  | bit1B => exact cbBit_case 1 (.reg .b)
  | bit1C => exact cbBit_case 1 (.reg .c)
  | bit1D => exact cbBit_case 1 (.reg .d)
  | bit1E => exact cbBit_case 1 (.reg .e)
  | bit1H => exact cbBit_case 1 (.reg .h)
  | bit1L => exact cbBit_case 1 (.reg .l)
  | bit1IndHl => exact cbBit_case 1 .indHl
  | bit1A => exact cbBit_case 1 (.reg .a)
  | bit2B => exact cbBit_case 2 (.reg .b)
  | bit2C => exact cbBit_case 2 (.reg .c)
  | bit2D => exact cbBit_case 2 (.reg .d)
  | bit2E => exact cbBit_case 2 (.reg .e)
  | bit2H => exact cbBit_case 2 (.reg .h)
  | bit2L => exact cbBit_case 2 (.reg .l)
  | bit2IndHl => exact cbBit_case 2 .indHl
  | bit2A => exact cbBit_case 2 (.reg .a)
  | bit3B => exact cbBit_case 3 (.reg .b)
  | bit3C => exact cbBit_case 3 (.reg .c)
  | bit3D => exact cbBit_case 3 (.reg .d)
  | bit3E => exact cbBit_case 3 (.reg .e)
  | bit3H => exact cbBit_case 3 (.reg .h)
  | bit3L => exact cbBit_case 3 (.reg .l)
  | bit3IndHl => exact cbBit_case 3 .indHl
  | bit3A => exact cbBit_case 3 (.reg .a)
  | bit4B => exact cbBit_case 4 (.reg .b)
  | bit4C => exact cbBit_case 4 (.reg .c)
  | bit4D => exact cbBit_case 4 (.reg .d)
  | bit4E => exact cbBit_case 4 (.reg .e)
  | bit4H => exact cbBit_case 4 (.reg .h)
  | bit4L => exact cbBit_case 4 (.reg .l)
  | bit4IndHl => exact cbBit_case 4 .indHl
  | bit4A => exact cbBit_case 4 (.reg .a)
  | bit5B => exact cbBit_case 5 (.reg .b)
  | bit5C => exact cbBit_case 5 (.reg .c)
  | bit5D => exact cbBit_case 5 (.reg .d)
  | bit5E => exact cbBit_case 5 (.reg .e)
  | bit5H => exact cbBit_case 5 (.reg .h)
  | bit5L => exact cbBit_case 5 (.reg .l)
  | bit5IndHl => exact cbBit_case 5 .indHl
  | bit5A => exact cbBit_case 5 (.reg .a)
  | bit6B => exact cbBit_case 6 (.reg .b)
  | bit6C => exact cbBit_case 6 (.reg .c)
  | bit6D => exact cbBit_case 6 (.reg .d)
  | bit6E => exact cbBit_case 6 (.reg .e)
  | bit6H => exact cbBit_case 6 (.reg .h)
  | bit6L => exact cbBit_case 6 (.reg .l)
  | bit6IndHl => exact cbBit_case 6 .indHl
  | bit6A => exact cbBit_case 6 (.reg .a)
  | bit7B => exact cbBit_case 7 (.reg .b)
  | bit7C => exact cbBit_case 7 (.reg .c)
  | bit7D => exact cbBit_case 7 (.reg .d)
  | bit7E => exact cbBit_case 7 (.reg .e)
  | bit7H => exact cbBit_case 7 (.reg .h)
  | bit7L => exact cbBit_case 7 (.reg .l)
  | bit7IndHl => exact cbBit_case 7 .indHl
  | bit7A => exact cbBit_case 7 (.reg .a)
  | res0B => exact cbRes_case 0 (.reg .b)
  | res0C => exact cbRes_case 0 (.reg .c)
  | res0D => exact cbRes_case 0 (.reg .d)
  | res0E => exact cbRes_case 0 (.reg .e)
  | res0H => exact cbRes_case 0 (.reg .h)
  | res0L => exact cbRes_case 0 (.reg .l)
  | res0IndHl => exact cbRes_case 0 .indHl
  | res0A => exact cbRes_case 0 (.reg .a)
  | res1B => exact cbRes_case 1 (.reg .b)
  | res1C => exact cbRes_case 1 (.reg .c)
  | res1D => exact cbRes_case 1 (.reg .d)
  | res1E => exact cbRes_case 1 (.reg .e)
  | res1H => exact cbRes_case 1 (.reg .h)
  | res1L => exact cbRes_case 1 (.reg .l)
  | res1IndHl => exact cbRes_case 1 .indHl
  | res1A => exact cbRes_case 1 (.reg .a)
  | res2B => exact cbRes_case 2 (.reg .b)
  | res2C => exact cbRes_case 2 (.reg .c)
  | res2D => exact cbRes_case 2 (.reg .d)
  | res2E => exact cbRes_case 2 (.reg .e)
  | res2H => exact cbRes_case 2 (.reg .h)
  | res2L => exact cbRes_case 2 (.reg .l)
  | res2IndHl => exact cbRes_case 2 .indHl
  | res2A => exact cbRes_case 2 (.reg .a)
  | res3B => exact cbRes_case 3 (.reg .b)
  | res3C => exact cbRes_case 3 (.reg .c)
  | res3D => exact cbRes_case 3 (.reg .d)
  | res3E => exact cbRes_case 3 (.reg .e)
  | res3H => exact cbRes_case 3 (.reg .h)
  | res3L => exact cbRes_case 3 (.reg .l)
  | res3IndHl => exact cbRes_case 3 .indHl
  | res3A => exact cbRes_case 3 (.reg .a)
  | res4B => exact cbRes_case 4 (.reg .b)
  | res4C => exact cbRes_case 4 (.reg .c)
  | res4D => exact cbRes_case 4 (.reg .d)
  | res4E => exact cbRes_case 4 (.reg .e)
  | res4H => exact cbRes_case 4 (.reg .h)
  | res4L => exact cbRes_case 4 (.reg .l)
  | res4IndHl => exact cbRes_case 4 .indHl
  | res4A => exact cbRes_case 4 (.reg .a)
  | res5B => exact cbRes_case 5 (.reg .b)
  | res5C => exact cbRes_case 5 (.reg .c)
  | res5D => exact cbRes_case 5 (.reg .d)
  | res5E => exact cbRes_case 5 (.reg .e)
  | res5H => exact cbRes_case 5 (.reg .h)
  | res5L => exact cbRes_case 5 (.reg .l)
  | res5IndHl => exact cbRes_case 5 .indHl
  | res5A => exact cbRes_case 5 (.reg .a)
  | res6B => exact cbRes_case 6 (.reg .b)
  | res6C => exact cbRes_case 6 (.reg .c)
  | res6D => exact cbRes_case 6 (.reg .d)
  | res6E => exact cbRes_case 6 (.reg .e)
  | res6H => exact cbRes_case 6 (.reg .h)
  | res6L => exact cbRes_case 6 (.reg .l)
  | res6IndHl => exact cbRes_case 6 .indHl
  | res6A => exact cbRes_case 6 (.reg .a)
  | res7B => exact cbRes_case 7 (.reg .b)
  | res7C => exact cbRes_case 7 (.reg .c)
  | res7D => exact cbRes_case 7 (.reg .d)
  | res7E => exact cbRes_case 7 (.reg .e)
  | res7H => exact cbRes_case 7 (.reg .h)
  | res7L => exact cbRes_case 7 (.reg .l)
  | res7IndHl => exact cbRes_case 7 .indHl
  | res7A => exact cbRes_case 7 (.reg .a)
  | set0B => exact cbSet_case 0 (.reg .b)
  | set0C => exact cbSet_case 0 (.reg .c)
  | set0D => exact cbSet_case 0 (.reg .d)
  | set0E => exact cbSet_case 0 (.reg .e)
  | set0H => exact cbSet_case 0 (.reg .h)
  | set0L => exact cbSet_case 0 (.reg .l)
  | set0IndHl => exact cbSet_case 0 .indHl
  | set0A => exact cbSet_case 0 (.reg .a)
  | set1B => exact cbSet_case 1 (.reg .b)
  | set1C => exact cbSet_case 1 (.reg .c)
  | set1D => exact cbSet_case 1 (.reg .d)
  | set1E => exact cbSet_case 1 (.reg .e)
  | set1H => exact cbSet_case 1 (.reg .h)
  | set1L => exact cbSet_case 1 (.reg .l)
  | set1IndHl => exact cbSet_case 1 .indHl
  | set1A => exact cbSet_case 1 (.reg .a)
  | set2B => exact cbSet_case 2 (.reg .b)
  | set2C => exact cbSet_case 2 (.reg .c)
  | set2D => exact cbSet_case 2 (.reg .d)
  | set2E => exact cbSet_case 2 (.reg .e)
  | set2H => exact cbSet_case 2 (.reg .h)
  | set2L => exact cbSet_case 2 (.reg .l)
  | set2IndHl => exact cbSet_case 2 .indHl
  | set2A => exact cbSet_case 2 (.reg .a)
  | set3B => exact cbSet_case 3 (.reg .b)
  | set3C => exact cbSet_case 3 (.reg .c)
  | set3D => exact cbSet_case 3 (.reg .d)
  | set3E => exact cbSet_case 3 (.reg .e)
  | set3H => exact cbSet_case 3 (.reg .h)
  | set3L => exact cbSet_case 3 (.reg .l)
  | set3IndHl => exact cbSet_case 3 .indHl
  | set3A => exact cbSet_case 3 (.reg .a)
  | set4B => exact cbSet_case 4 (.reg .b)
  | set4C => exact cbSet_case 4 (.reg .c)
  | set4D => exact cbSet_case 4 (.reg .d)
  | set4E => exact cbSet_case 4 (.reg .e)
  | set4H => exact cbSet_case 4 (.reg .h)
  | set4L => exact cbSet_case 4 (.reg .l)
  | set4IndHl => exact cbSet_case 4 .indHl
  | set4A => exact cbSet_case 4 (.reg .a)
  | set5B => exact cbSet_case 5 (.reg .b)
  | set5C => exact cbSet_case 5 (.reg .c)
  | set5D => exact cbSet_case 5 (.reg .d)
  | set5E => exact cbSet_case 5 (.reg .e)
  | set5H => exact cbSet_case 5 (.reg .h)
  | set5L => exact cbSet_case 5 (.reg .l)
  | set5IndHl => exact cbSet_case 5 .indHl
  | set5A => exact cbSet_case 5 (.reg .a)
  | set6B => exact cbSet_case 6 (.reg .b)
  | set6C => exact cbSet_case 6 (.reg .c)
  | set6D => exact cbSet_case 6 (.reg .d)
  | set6E => exact cbSet_case 6 (.reg .e)
  | set6H => exact cbSet_case 6 (.reg .h)
  | set6L => exact cbSet_case 6 (.reg .l)
  | set6IndHl => exact cbSet_case 6 .indHl
  | set6A => exact cbSet_case 6 (.reg .a)
  | set7B => exact cbSet_case 7 (.reg .b)
  | set7C => exact cbSet_case 7 (.reg .c)
  | set7D => exact cbSet_case 7 (.reg .d)
  | set7E => exact cbSet_case 7 (.reg .e)
  | set7H => exact cbSet_case 7 (.reg .h)
  | set7L => exact cbSet_case 7 (.reg .l)
  | set7IndHl => exact cbSet_case 7 .indHl
  | set7A => exact cbSet_case 7 (.reg .a)

end Sys2Proof.Machine
end

