-- ==== Sys2Proof/Laws/Memory.lean ====
section
/-! SUPPORT. The laws of byte arrays: read after write, and every write keeps the canonical form. -/

namespace Sys2Proof.Machine

@[simp] theorem Memory.get_nil (k : Nat) : Memory.get [] k = 0 := rfl

theorem Memory.get_cons (i : Nat) (v : Byte) (rest : Memory) (k : Nat) :
    Memory.get ((i, v) :: rest) k = if i = k then v else Memory.get rest k := rfl

theorem Memory.set_nil_zero (k : Nat) {v : Byte} (hv : v = 0) : Memory.set [] k v = [] := if_pos hv

theorem Memory.set_nil_of_ne (k : Nat) {v : Byte} (hv : v ≠ 0) : Memory.set [] k v = [(k, v)] := if_neg hv

theorem Memory.wfFrom_cons (lo i : Nat) (v : Byte) (rest : Memory) :
    Memory.wfFrom lo ((i, v) :: rest) = true ↔ lo ≤ i ∧ v ≠ 0 ∧ Memory.wfFrom (i + 1) rest = true := by
  simp [Memory.wfFrom, and_assoc]

theorem Memory.wfFrom_mono {lo lo' : Nat} (h : lo' ≤ lo) {m : Memory} (hm : m.wfFrom lo = true) : m.wfFrom lo' = true := by
  cases m with
  | nil => rfl
  | cons cell rest =>
    obtain ⟨i, v⟩ := cell
    rw [Memory.wfFrom_cons] at hm ⊢
    exact ⟨by omega, hm.2⟩

/-- Below its first index an array in canonical form reads 0x00. -/
theorem Memory.get_below {lo k : Nat} {m : Memory} (hm : m.wfFrom lo = true) (hk : k < lo) : m.get k = 0 := by
  induction m generalizing lo with
  | nil => rfl
  | cons cell rest ih =>
    obtain ⟨i, v⟩ := cell
    rw [Memory.wfFrom_cons] at hm
    rw [Memory.get_cons, if_neg (by omega)]
    exact ih hm.2.2 (by omega)

theorem Memory.get_set_from {lo : Nat} {m : Memory} (hm : m.wfFrom lo = true) (k j : Nat) (v : Byte) :
    (m.set k v).get j = if j = k then v else m.get j := by
  induction m generalizing lo with
  | nil =>
    by_cases hv : v = 0
    · rw [Memory.set_nil_zero k hv, Memory.get_nil]
      split
      · exact hv.symm
      · rfl
    · rw [Memory.set_nil_of_ne k hv, Memory.get_cons]
      by_cases hj : j = k
      · rw [if_pos hj.symm, if_pos hj]
      · rw [if_neg (fun h => hj h.symm), if_neg hj]
  | cons cell rest ih =>
    obtain ⟨i, w⟩ := cell
    rw [Memory.wfFrom_cons] at hm
    have below : ∀ x, x ≤ i → Memory.get rest x = 0 := fun x hx => Memory.get_below hm.2.2 (by omega)
    simp only [Memory.set]
    split
    · rename_i hki
      split
      · rename_i hv
        by_cases hj : j = k
        · subst hj; rw [if_pos rfl, Memory.get_cons, if_neg (by omega), below _ (by omega), hv]
        · rw [if_neg hj]
      · rw [Memory.get_cons]
        by_cases hj : j = k
        · rw [if_pos hj.symm, if_pos hj]
        · rw [if_neg (by omega), if_neg hj]
    · split
      · rename_i hki hkeq
        subst hkeq
        split
        · rename_i hv
          by_cases hj : j = k
          · subst hj; rw [if_pos rfl, below _ (by omega), hv]
          · rw [if_neg hj, Memory.get_cons, if_neg (by omega)]
        · rw [Memory.get_cons, Memory.get_cons]
          by_cases hj : j = k
          · rw [if_pos hj.symm, if_pos hj]
          · rw [if_neg (by omega), if_neg hj, if_neg (by omega)]
      · rw [Memory.get_cons, Memory.get_cons, ih hm.2.2]
        by_cases hij : i = j
        · rw [if_pos hij, if_neg (by omega), if_pos hij]
        · rw [if_neg hij, if_neg hij]

/-- Read after write, at every index, in an array in canonical form. -/
theorem Memory.get_set {m : Memory} (hm : m.wf = true) (k j : Nat) (v : Byte) :
    (m.set k v).get j = if j = k then v else m.get j := Memory.get_set_from hm k j v

theorem Memory.set_wfFrom {lo : Nat} {m : Memory} (hm : m.wfFrom lo = true) {k : Nat} (hk : lo ≤ k) (v : Byte) :
    (m.set k v).wfFrom lo = true := by
  induction m generalizing lo with
  | nil =>
    by_cases hv : v = 0
    · rw [Memory.set_nil_zero k hv]; rfl
    · rw [Memory.set_nil_of_ne k hv, Memory.wfFrom_cons]; exact ⟨hk, hv, rfl⟩
  | cons cell rest ih =>
    obtain ⟨i, w⟩ := cell
    have hm' := hm
    rw [Memory.wfFrom_cons] at hm
    simp only [Memory.set]
    split
    · split
      · exact hm'
      · rename_i hv
        rw [Memory.wfFrom_cons, Memory.wfFrom_cons]
        exact ⟨hk, hv, by omega, hm.2⟩
    · split
      · split
        · exact Memory.wfFrom_mono (by omega) hm.2.2
        · rename_i hv
          rw [Memory.wfFrom_cons]
          rename_i hkeq
          exact ⟨hk, hv, hkeq ▸ hm.2.2⟩
      · rw [Memory.wfFrom_cons]
        exact ⟨hm.1, hm.2.1, ih hm.2.2 (by omega)⟩

/-- A write keeps the canonical form. -/
theorem Memory.set_wf {m : Memory} (hm : m.wf = true) (k : Nat) (v : Byte) : (m.set k v).wf = true :=
  Memory.set_wfFrom hm (Nat.zero_le k) v

/-- A write inside `p` keeps an array inside `p`. -/
theorem Memory.set_keysIn {p : Nat → Bool} {m : Memory} (hm : m.keysIn p = true) {k : Nat} (hk : p k = true) (v : Byte) :
    (m.set k v).keysIn p = true := by
  induction m with
  | nil =>
    by_cases hv : v = 0
    · rw [Memory.set_nil_zero k hv]; rfl
    · rw [Memory.set_nil_of_ne k hv]; simp [Memory.keysIn, hk]
  | cons cell rest ih =>
    obtain ⟨i, w⟩ := cell
    simp only [Memory.keysIn, List.all_cons, Bool.and_eq_true] at hm ih ⊢
    simp only [Memory.set]
    split
    · split <;> simp [hm.1, hm.2, hk]
    · split
      · split
        · exact hm.2
        · simp [hm.2, hk]
      · simp only [List.all_cons, Bool.and_eq_true]
        exact ⟨hm.1, ih hm.2⟩

/-- A list of bytes put into an array keeps the canonical form. -/
theorem Memory.setList_wf {m : Memory} (hm : m.wf = true) (k : Nat) (bs : List Byte) : (m.setList k bs).wf = true := by
  induction bs generalizing m k with
  | nil => exact hm
  | cons v rest ih => exact ih (Memory.set_wf hm k v) (k + 1)

theorem Memory.setList_keysIn {p : Nat → Bool} (bs : List Byte) {m : Memory} (hm : m.keysIn p = true) (k : Nat)
    (h : ∀ i, i < bs.length → p (k + i) = true) : (m.setList k bs).keysIn p = true := by
  induction bs generalizing m k with
  | nil => exact hm
  | cons v bs ih =>
    refine ih (Memory.set_keysIn hm (h 0 (by simp)) v) (k + 1) fun i hi => ?_
    rw [show k + 1 + i = k + (i + 1) by omega]
    exact h (i + 1) (by simp; omega)

/-- An image read back: the byte of the list, or 0x00 beyond it (R103). -/
theorem Memory.get_setList {m : Memory} (hm : m.wf = true) (k j : Nat) (bs : List Byte) :
    (m.setList k bs).get j = if k ≤ j ∧ j < k + bs.length then bs.getD (j - k) 0 else m.get j := by
  induction bs generalizing m k with
  | nil => simp only [Memory.setList, List.length_nil]; rw [if_neg (by omega)]
  | cons v rest ih =>
    simp only [Memory.setList, List.length_cons]
    rw [ih (Memory.set_wf hm k v) (k + 1), Memory.get_set hm]
    by_cases hj : j = k
    · subst hj
      rw [if_neg (by omega), if_pos rfl, if_pos (by omega)]; simp
    · by_cases hin : k + 1 ≤ j ∧ j < k + 1 + rest.length
      · rw [if_pos hin, if_pos (by omega), show j - k = (j - (k + 1)) + 1 by omega]; simp
      · rw [if_neg hin, if_neg hj, if_neg (by omega)]

/-- Two arrays in canonical form that read alike are the same list. -/
theorem Memory.ext_of_get {lo : Nat} {m n : Memory} (hm : m.wfFrom lo = true) (hn : n.wfFrom lo = true)
    (h : ∀ k, m.get k = n.get k) : m = n := by
  induction m generalizing lo n with
  | nil =>
    cases n with
    | nil => rfl
    | cons cell rest =>
      obtain ⟨i, v⟩ := cell
      rw [Memory.wfFrom_cons] at hn
      exact absurd (by have := h i; rw [Memory.get_cons, if_pos rfl] at this; exact this.symm) hn.2.1
  | cons cell rest ih =>
    obtain ⟨i, v⟩ := cell
    cases n with
    | nil =>
      rw [Memory.wfFrom_cons] at hm
      exact absurd (by have := h i; rw [Memory.get_cons, if_pos rfl] at this; exact this) hm.2.1
    | cons cell' rest' =>
      obtain ⟨i', v'⟩ := cell'
      rw [Memory.wfFrom_cons] at hm hn
      have belowM : ∀ x, x ≤ i → Memory.get rest x = 0 := fun x hx => Memory.get_below hm.2.2 (by omega)
      have belowN : ∀ x, x ≤ i' → Memory.get rest' x = 0 := fun x hx => Memory.get_below hn.2.2 (by omega)
      have hi := h i
      have hi' := h i'
      rw [Memory.get_cons, Memory.get_cons, if_pos rfl] at hi
      rw [Memory.get_cons, Memory.get_cons, if_pos rfl] at hi'
      have same : i = i' := by
        by_contra hne
        rcases Nat.lt_or_gt_of_ne hne with hlt | hgt
        · rw [if_neg (by omega), belowN i (by omega)] at hi; exact hm.2.1 hi
        · rw [if_neg (by omega), belowM i' (by omega)] at hi'; exact hn.2.1 hi'.symm
      subst same
      rw [if_pos rfl] at hi
      subst hi
      refine congrArg _ (ih hm.2.2 hn.2.2 fun k => ?_)
      have hk := h k
      rw [Memory.get_cons, Memory.get_cons] at hk
      by_cases hik : i = k
      · rw [← hik, belowM i (by omega), belowN i (by omega)]
      · rwa [if_neg hik, if_neg hik] at hk

end Sys2Proof.Machine
end

