-- ==== Sys2Proof/Laws/Bus.lean ====
section
/-! SUPPORT. The laws of the bus: what `reading` and `storing` can answer, what a write leaves, the address decoder by
ranges, and which writes keep what. -/

namespace Sys2Proof.Machine

/-! ## reading and storing -/

@[simp] theorem reading_ok {α : Type} (v : α) (k : α → Result) : reading (.ok v) k = k v := rfl

@[simp] theorem reading_error {α : Type} (r : Fault) (k : α → Result) : reading (.error r : Except Fault α) k = .fault r := rfl

@[simp] theorem storing_ok (t : State) (k : State → Result) : storing (.ok t) k = k t := rfl

@[simp] theorem storing_error (r : Fault) (k : State → Result) : storing (.error r) k = .fault r := rfl

theorem reading_next {α : Type} {x : Except Fault α} {k : α → Result} {t : State} :
    reading x k = .next t ↔ ∃ v, x = .ok v ∧ k v = .next t := by
  cases x <;> simp

theorem storing_next {x : Except Fault State} {k : State → Result} {t : State} :
    storing x k = .next t ↔ ∃ u, x = .ok u ∧ k u = .next t := by
  cases x <;> simp

theorem reading_fault {α : Type} {x : Except Fault α} {k : α → Result} {r : Fault} :
    reading x k = .fault r ↔ x = .error r ∨ ∃ v, x = .ok v ∧ k v = .fault r := by
  cases x <;> simp

theorem storing_fault {x : Except Fault State} {k : State → Result} {r : Fault} :
    storing x k = .fault r ↔ x = .error r ∨ ∃ u, x = .ok u ∧ k u = .fault r := by
  cases x <;> simp

/-! ## Writes -/

/-- A write answers the delivered state exactly where a handler is found. -/
theorem busWrite_ok {s t : State} {a : Word} {v : Byte} :
    s.busWrite a v = .ok t ↔ s.windowOpen a = true ∧ t = s.deliver a v := by
  unfold State.busWrite
  split <;> rename_i h <;> simp [h, eq_comm]

theorem busWrite_of_open {s : State} {a : Word} (h : s.windowOpen a = true) (v : Byte) :
    s.busWrite a v = .ok (s.deliver a v) := busWrite_ok.mpr ⟨h, rfl⟩

theorem busWrite_of_closed {s : State} {a : Word} (h : s.windowOpen a = false) (v : Byte) :
    s.busWrite a v = .error .noCartridge := by
  simp [State.busWrite, h]

theorem busWrite16_ok {s t : State} {a : Word} {v : Word} :
    s.busWrite16 a v = .ok t ↔
      s.windowOpen a = true ∧ s.windowOpen (a + 1) = true ∧ t = (s.deliver a (loByte v)).deliver (a + 1) (hiByte v) := by
  unfold State.busWrite16
  cases h : s.windowOpen a
  · simp [busWrite_of_closed h]
  · simp [busWrite_of_open h, busWrite_ok]

@[simp] theorem setSp_windowOpen (s : State) (v a : Word) : (s.setSp v).windowOpen a = s.windowOpen a := rfl

/-- A push leaves SP less 2 and its two bytes delivered, low byte first (R222). -/
theorem push16_ok {s t : State} {v : Word} :
    s.push16 v = .ok t ↔
      s.windowOpen (s.sp - 2) = true ∧ s.windowOpen (s.sp - 2 + 1) = true ∧
        t = ((s.setSp (s.sp - 2)).deliver (s.sp - 2) (loByte v)).deliver (s.sp - 2 + 1) (hiByte v) := by
  simp [State.push16, busWrite16_ok]

/-- Two states whose bus and cartridge are the same. -/
structure SameBus (s t : State) : Prop where
  ram : s.ram = t.ram
  ie : s.ie = t.ie
  sb : s.sb = t.sb
  serialOut : s.serialOut = t.serialOut
  cart : s.cart = t.cart

theorem SameBus.rfl' {s : State} : SameBus s s := ⟨rfl, rfl, rfl, rfl, rfl⟩

theorem SameBus.trans' {s t u : State} (h : SameBus s t) (k : SameBus t u) : SameBus s u :=
  ⟨h.ram.trans k.ram, h.ie.trans k.ie, h.sb.trans k.sb, h.serialOut.trans k.serialOut, h.cart.trans k.cart⟩

/-- A write sees only the bus and the cartridge. -/
theorem SameBus.deliver {s t : State} (h : SameBus s t) (a : Word) (v : Byte) : SameBus (s.deliver a v) (t.deliver a v) := by
  obtain ⟨h1, h2, h3, h4, h5⟩ := h
  unfold State.deliver
  split <;>
    first
    | exact ⟨h1, h2, h3, h4, by simp [h5]⟩
    | exact ⟨by simp [h1], h2, h3, h4, h5⟩
    | exact ⟨h1, rfl, h3, h4, h5⟩
    | (unfold State.ioWrite
       split
       · exact ⟨h1, h2, rfl, h4, h5⟩
       · split
         · exact ⟨h1, h2, h3, by simp [h3, h4], h5⟩
         · exact ⟨h1, h2, h3, h4, h5⟩)

/-- Writes in order. -/
def State.deliverAll (s : State) (ws : List (Word × Byte)) : State := ws.foldl (fun t w => t.deliver w.1 w.2) s

@[simp] theorem deliverAll_nil (s : State) : s.deliverAll [] = s := rfl

@[simp] theorem deliverAll_cons (s : State) (w : Word × Byte) (ws : List (Word × Byte)) :
    s.deliverAll (w :: ws) = (s.deliver w.1 w.2).deliverAll ws := rfl

/-! ## The address map (R94) -/

/-- The addresses the map of R94 gives each handler. -/
def Region.covers (r : Region) (n : Nat) : Prop :=
  match r with
  | .romFixed => n < 0x4000
  | .romSwitch => 0x4000 ≤ n ∧ n < 0x8000
  | .vram => 0x8000 ≤ n ∧ n < 0xA000
  | .extRam => 0xA000 ≤ n ∧ n < 0xC000
  | .wram => 0xC000 ≤ n ∧ n < 0xE000
  | .mirror => 0xE000 ≤ n ∧ n < 0xFE00
  | .oam => 0xFE00 ≤ n ∧ n < 0xFEA0
  | .unmapped => 0xFEA0 ≤ n ∧ n < 0xFF00
  | .io => 0xFF00 ≤ n ∧ n < 0xFF80
  | .hram => 0xFF80 ≤ n ∧ n < 0xFFFF
  | .ie => n = 0xFFFF

/-- The nibble decoder of R76 answers the handler the map of R94 gives the address. -/
theorem covers_decodeAddr (a : Word) : (decodeAddr a).covers a.toNat := by
  have hlt := a.isLt
  have bit7 : a.getLsbD 7 = true ↔ a.toNat / 128 % 2 = 1 := by
    rw [BitVec.getLsbD, Nat.testBit_eq_decide_div_mod_eq, decide_eq_true_eq]
  generalize hr : decodeAddr a = r
  unfold decodeAddr at hr
  generalize hk : a.toNat / 0x1000 = k at hr
  by_cases hF : k = 15
  · subst hF
    simp only [] at hr
    by_cases hE : a.toNat / 0x100 % 16 = 14
    · simp only [hE] at hr
      split at hr <;> subst hr <;> simp only [Region.covers] <;> omega
    by_cases hFF : a.toNat / 0x100 % 16 = 15
    · simp only [hFF, bit7] at hr
      split at hr
      · subst hr; assumption
      · split at hr <;> subst hr <;> simp only [Region.covers] <;> omega
    · generalize hj : a.toNat / 0x100 % 16 = j at hr hE hFF
      have hj14 : j < 14 := by omega
      interval_cases j <;> simp only [] at hr <;> subst hr <;> simp only [Region.covers] <;> omega
  · have hk15 : k < 15 := by omega
    interval_cases k <;> simp only [] at hr <;> subst hr <;> simp only [Region.covers] <;> omega

/-- No address belongs to two handlers. -/
theorem covers_unique {r q : Region} {n : Nat} (hr : r.covers n) (hq : q.covers n) : r = q := by
  cases r <;> cases q <;> first | rfl | (simp only [Region.covers] at hr hq; omega)

theorem decodeAddr_of_covers {r : Region} {a : Word} (h : r.covers a.toNat) : decodeAddr a = r :=
  covers_unique (covers_decodeAddr a) h

/-- A storage region's bytes lie where `State.ram` may list them. -/
theorem isStorageIndex_storageIndex {a : Word}
    (h : decodeAddr a = .vram ∨ decodeAddr a = .wram ∨ decodeAddr a = .mirror ∨ decodeAddr a = .oam ∨ decodeAddr a = .hram) :
    isStorageIndex (storageIndex a) = true := by
  have hr := covers_decodeAddr a
  unfold storageIndex isStorageIndex
  rcases h with h | h | h | h | h <;> rw [h] at hr ⊢ <;>
    simp only [Region.covers, Bool.or_eq_true, Bool.and_eq_true, decide_eq_true_eq] at hr ⊢ <;> omega

/-! ## What no write changes -/

/-- A register write changes neither image nor scheme (R105, R109 to R112, R123). -/
theorem writeFixed_keeps (ct : Cart) (a : Word) (v : Byte) :
    (ct.writeFixed a v).image = ct.image ∧ (ct.writeFixed a v).scheme = ct.scheme := by
  unfold Cart.writeFixed
  split
  · exact ⟨rfl, rfl⟩
  · split <;> exact ⟨rfl, rfl⟩

theorem writeSwitch_keeps (ct : Cart) (a : Word) (v : Byte) :
    (ct.writeSwitch a v).image = ct.image ∧ (ct.writeSwitch a v).scheme = ct.scheme := by
  unfold Cart.writeSwitch
  split
  · exact ⟨rfl, rfl⟩
  · split
    · unfold Cart.writeBankHigh; split <;> exact ⟨rfl, rfl⟩
    · unfold Cart.writeMode; split <;> exact ⟨rfl, rfl⟩

theorem writeRam_keeps (ct : Cart) (a : Word) (v : Byte) :
    (ct.writeRam a v).image = ct.image ∧ (ct.writeRam a v).scheme = ct.scheme := by
  unfold Cart.writeRam
  split <;> exact ⟨rfl, rfl⟩

/-- A write leaves the image and the scheme of a loaded cartridge as they were. -/
theorem deliver_cart {s : State} {ct : Cart} (h : s.cart = some ct) (a : Word) (v : Byte) :
    ∃ ct', (s.deliver a v).cart = some ct' ∧ ct'.image = ct.image ∧ ct'.scheme = ct.scheme := by
  unfold State.deliver
  split <;> simp [h, writeFixed_keeps, writeSwitch_keeps, writeRam_keeps, State.setRam]

end Sys2Proof.Machine
end

