-- ==== Sys2Proof/Laws/Effect.lean ====
section
/-! SUPPORT. The one inversion lemma about `exec`: if it answers a next state, that state's bus and cartridge are what the
instruction's stores, in order, make of the old ones, and F is the old one or has its low bits 0. -/

namespace Sys2Proof.Machine

/-- What a result does to the bus, the cartridge and F, if it answers a next state: it delivers one byte to each of the
addresses `as`, each of which has a handler, and F is kept or rebuilt. -/
def Effect (s : State) (as : List Word) (r : Result) : Prop :=
  ∀ t, r = .next t →
    ∃ ws : List (Word × Byte), ws.map Prod.fst = as ∧ (∀ a ∈ as, s.windowOpen a = true) ∧ SameBus t (s.deliverAll ws) ∧
      (t.f = s.f ∨ t.f.extractLsb' 0 4 = 0)

theorem toByte_low (fl : Flags) : fl.toByte.extractLsb' 0 4 = 0 := by
  obtain ⟨z, n, h, c⟩ := fl
  cases z <;> cases n <;> cases h <;> cases c <;> rfl

theorem mask_low (v : Byte) : (v &&& 0xF0).extractLsb' 0 4 = 0 := by
  apply BitVec.eq_of_getLsbD_eq; intro i hi
  have : (0xF0 : Byte).getLsbD i = false := by
    rcases (by omega : i = 0 ∨ i = 1 ∨ i = 2 ∨ i = 3) with h | h | h | h <;> subst h <;> rfl
  rw [BitVec.getLsbD_extractLsb', Nat.zero_add, BitVec.getLsbD_and, this]
  simp

/-- An answer that stores nothing. -/
theorem effect_next {s t : State} (hb : SameBus t s) (hf : t.f = s.f ∨ t.f.extractLsb' 0 4 = 0) :
    Effect s [] (.next t) := by
  rintro u ⟨⟩
  exact ⟨[], rfl, by simp, hb, hf⟩

theorem effect_fault (s : State) (as : List Word) (r : Fault) : Effect s as (.fault r) := by
  rintro u ⟨⟩

theorem effect_reading {α : Type} {s : State} {as : List Word} {x : Except Fault α} {k : α → Result}
    (h : ∀ v, Effect s as (k v)) : Effect s as (reading x k) := by
  cases x with
  | error r => exact effect_fault s as r
  | ok v => exact h v

/-- An answer that stores one byte. -/
theorem effect_store {s : State} {a : Word} {v : Byte} {k : State → Result}
    (h : ∀ t, k (s.deliver a v) = .next t →
      SameBus t (s.deliver a v) ∧ (t.f = s.f ∨ t.f.extractLsb' 0 4 = 0)) :
    Effect s [a] (storing (s.busWrite a v) k) := by
  intro t ht
  obtain ⟨u, hu, hk⟩ := storing_next.mp ht
  obtain ⟨ho, rfl⟩ := busWrite_ok.mp hu
  exact ⟨[(a, v)], rfl, by simp [ho], h t hk⟩

theorem both_of_pair {p : Word → Prop} {a b : Word} (ha : p a) (hb : p b) : ∀ x ∈ [a, b], p x := by
  intro x hx
  simp only [List.mem_cons, List.not_mem_nil, or_false] at hx
  rcases hx with rfl | rfl <;> assumption

/-- An answer that pushes a word. -/
theorem effect_push {s : State} {v : Word} {k : State → Result}
    (h : ∀ u t, k u = .next t → SameBus t u ∧ t.f = u.f) :
    Effect s [s.sp - 2, s.sp - 2 + 1] (storing (s.push16 v) k) := by
  intro t ht
  obtain ⟨u, hu, hk⟩ := storing_next.mp ht
  obtain ⟨h1, h2, rfl⟩ := push16_ok.mp hu
  obtain ⟨hb, hf⟩ := h _ _ hk
  refine ⟨[(s.sp - 2, loByte v), (s.sp - 2 + 1, hiByte v)], rfl, both_of_pair h1 h2, ?_, Or.inl ?_⟩
  · refine hb.trans' ?_
    rw [deliverAll_cons, deliverAll_cons, deliverAll_nil]
    exact SameBus.deliver (SameBus.deliver (⟨rfl, rfl, rfl, rfl, rfl⟩ : SameBus (s.setSp (s.sp - 2)) s) _ _) _ _
  · rw [hf]; simp

theorem sameBus_setReg (s : State) (r : Reg8) (v : Byte) : SameBus (s.setReg r v) s := by
  constructor <;> simp

theorem sameBus_setPair (s : State) (rr : Pair) (v : Word) : SameBus (s.setPair rr v) s := by
  constructor <;> simp

theorem sameBus_setStackPair (s : State) (qq : StackPair) (v : Word) : SameBus (s.setStackPair qq v) s := by
  constructor <;> simp

/-! ## The shared meanings -/

theorem ldRegReg_effect (dst src : Reg8) (s : State) : Effect s [] (ldRegReg dst src s) :=
  effect_next (by constructor <;> simp) (by simp)

theorem ldRegImm_effect (dst : Reg8) (d8 : Byte) (s : State) : Effect s [] (ldRegImm dst d8 s) :=
  effect_next (by constructor <;> simp) (by simp)

theorem ldRegFrom_effect (dst : Reg8) (a len : Word) (m : Cycles) (s : State) : Effect s [] (ldRegFrom dst a len m s) :=
  effect_reading fun _ => effect_next (by constructor <;> simp) (by simp)

theorem ldTo_effect (a : Word) (v : Byte) (len : Word) (m : Cycles) (s : State) : Effect s [a] (ldTo a v len m s) :=
  effect_store (by rintro t ⟨⟩; exact ⟨by constructor <;> simp, by simp⟩)

theorem ldTo16_effect (a v len : Word) (m : Cycles) (s : State) : Effect s [a, a + 1] (ldTo16 a v len m s) := by
  intro t ht
  obtain ⟨u, hu, hk⟩ := storing_next.mp ht
  obtain ⟨h1, h2, rfl⟩ := busWrite16_ok.mp hu
  cases hk
  exact ⟨[(a, loByte v), (a + 1, hiByte v)], rfl, both_of_pair h1 h2, by constructor <;> simp, by simp⟩

theorem ldToHlStep_effect (step : Word) (s : State) : Effect s [s.hl] (ldToHlStep step s) :=
  effect_store (by rintro t ⟨⟩; exact ⟨by constructor <;> simp, by simp⟩)

theorem ldFromHlStep_effect (step : Word) (s : State) : Effect s [] (ldFromHlStep step s) :=
  effect_reading fun _ => effect_next (by constructor <;> simp) (by simp)

theorem ldPairImm_effect (rr : Pair) (d16 : Word) (s : State) : Effect s [] (ldPairImm rr d16 s) :=
  effect_next (by constructor <;> simp) (by simp)

theorem ldSpFromHl_effect (s : State) : Effect s [] (ldSpFromHl s) :=
  effect_next (by constructor <;> simp) (by simp)

theorem pushPair_effect (qq : StackPair) (s : State) : Effect s [s.sp - 2, s.sp - 2 + 1] (pushPair qq s) :=
  effect_push (by rintro u t ⟨⟩; exact ⟨by constructor <;> simp, by simp⟩)

theorem setStackPair_f (s : State) (qq : StackPair) (v : Word) :
    (s.setStackPair qq v).f = s.f ∨ (s.setStackPair qq v).f.extractLsb' 0 4 = 0 := by
  cases qq
  case af => exact Or.inr (mask_low _)
  all_goals exact Or.inl rfl

theorem popPair_effect (qq : StackPair) (s : State) : Effect s [] (popPair qq s) :=
  effect_reading fun _ => effect_next (by constructor <;> simp) (by simpa using setStackPair_f (s.setSp (s.sp + 2)) qq _)

theorem applyAlu_bus (s : State) (op : AluOp) (v : Byte) : SameBus (s.applyAlu op v) s := by
  unfold State.applyAlu; dsimp only; split <;> constructor <;> simp

theorem applyAlu_f (s : State) (op : AluOp) (v : Byte) : (s.applyAlu op v).f.extractLsb' 0 4 = 0 := by
  unfold State.applyAlu; dsimp only; split <;> simpa using toByte_low _

theorem aluOperand_effect (op : AluOp) (o : Operand8) (s : State) : Effect s [] (aluOperand op o s) :=
  effect_reading fun v => effect_next
    (SameBus.trans' (by constructor <;> simp) (applyAlu_bus s op v)) (Or.inr (applyAlu_f s op v))

theorem aluImm_effect (op : AluOp) (d8 : Byte) (s : State) : Effect s [] (aluImm op d8 s) :=
  effect_next (SameBus.trans' (by constructor <;> simp) (applyAlu_bus s op d8)) (Or.inr (applyAlu_f s op d8))

/-- Where an instruction that writes its operand back stores. -/
def operandStores (o : Operand8) (s : State) : List Word :=
  match o with
  | .reg _ => []
  | .indHl => [s.hl]

theorem effect_writeOperand {s : State} {o : Operand8} {v : Byte} {k : State → Result}
    (h : ∀ u t, k u = .next t → SameBus t u ∧ (t.f = u.f ∨ t.f.extractLsb' 0 4 = 0)) :
    Effect s (operandStores o s) (storing (s.writeOperand o v) k) := by
  cases o with
  | reg r =>
    intro t ht
    obtain ⟨hb, hf⟩ := h _ _ ht
    exact ⟨[], rfl, by simp [operandStores], hb.trans' (sameBus_setReg s r v), by simpa using hf⟩
  | indHl => exact effect_store fun t ht => by simpa using h _ t ht

theorem incOperand_effect (o : Operand8) (s : State) : Effect s (operandStores o s) (incOperand o s) :=
  effect_reading fun _ => effect_writeOperand
    (by rintro u t ⟨⟩; exact ⟨by constructor <;> simp, Or.inr (by simpa using toByte_low _)⟩)

theorem decOperand_effect (o : Operand8) (s : State) : Effect s (operandStores o s) (decOperand o s) :=
  effect_reading fun _ => effect_writeOperand
    (by rintro u t ⟨⟩; exact ⟨by constructor <;> simp, Or.inr (by simpa using toByte_low _)⟩)

theorem addHlPair_effect (rr : Pair) (s : State) : Effect s [] (addHlPair rr s) :=
  effect_next (by constructor <;> simp) (Or.inr (by simpa using toByte_low _))

theorem addToPair_effect (rr : Pair) (step : Word) (s : State) : Effect s [] (addToPair rr step s) :=
  effect_next (by constructor <;> simp) (by simp)

theorem adjustSp_effect (e8 : Byte) (s : State) : Effect s [] (adjustSp e8 s) :=
  effect_next (by constructor <;> simp) (Or.inr (by simpa using toByte_low _))

theorem ldHlAdjusted_effect (e8 : Byte) (s : State) : Effect s [] (ldHlAdjusted e8 s) :=
  effect_next (by constructor <;> simp) (Or.inr (by simpa using toByte_low _))

theorem accRotate_effect (k : AccRotate) (s : State) : Effect s [] (accRotate k s) :=
  effect_next (by constructor <;> simp) (Or.inr (by simpa using toByte_low _))

theorem decimalAdjust_effect (s : State) : Effect s [] (decimalAdjust s) :=
  effect_next (by constructor <;> simp) (Or.inr (by simpa using toByte_low _))

theorem complementA_effect (s : State) : Effect s [] (complementA s) :=
  effect_next (by constructor <;> simp) (Or.inr (by simpa using toByte_low _))

theorem setCarry_effect (s : State) : Effect s [] (setCarry s) :=
  effect_next (by constructor <;> simp) (Or.inr (by simpa using toByte_low _))

theorem complementCarry_effect (s : State) : Effect s [] (complementCarry s) :=
  effect_next (by constructor <;> simp) (Or.inr (by simpa using toByte_low _))

theorem retire_effect (len : Word) (m : Cycles) (s : State) : Effect s [] (.next (s.retire len m)) :=
  effect_next (by constructor <;> simp) (by simp)

theorem goto_effect (a : Word) (m : Cycles) (s : State) : Effect s [] (.next (s.goto a m)) :=
  effect_next (by constructor <;> simp) (by simp)

theorem jumpAbs_effect (a16 : Word) (s : State) : Effect s [] (jumpAbs a16 s) := goto_effect _ _ s

theorem jumpAbsCc_effect (cc : Cond) (a16 : Word) (s : State) : Effect s [] (jumpAbsCc cc a16 s) := by
  unfold jumpAbsCc; dsimp only; split
  · exact goto_effect _ _ s
  · exact retire_effect _ _ s

theorem jumpHl_effect (s : State) : Effect s [] (jumpHl s) := goto_effect _ _ s

theorem jumpRel_effect (e8 : Byte) (s : State) : Effect s [] (jumpRel e8 s) := goto_effect _ _ s

theorem jumpRelCc_effect (cc : Cond) (e8 : Byte) (s : State) : Effect s [] (jumpRelCc cc e8 s) := by
  unfold jumpRelCc; dsimp only; split
  · exact goto_effect _ _ s
  · exact retire_effect _ _ s

theorem callTo_effect (target len : Word) (m : Cycles) (s : State) :
    Effect s [s.sp - 2, s.sp - 2 + 1] (callTo target len m s) :=
  effect_push (by rintro u t ⟨⟩; exact ⟨by constructor <;> simp, by simp⟩)

theorem callAbs_effect (a16 : Word) (s : State) : Effect s [s.sp - 2, s.sp - 2 + 1] (callAbs a16 s) := callTo_effect _ _ _ s

theorem callAbsCc_effect (cc : Cond) (a16 : Word) (s : State) :
    Effect s (if s.cond cc then [s.sp - 2, s.sp - 2 + 1] else []) (callAbsCc cc a16 s) := by
  unfold callAbsCc; dsimp only; split
  · exact callTo_effect _ _ _ s
  · exact retire_effect _ _ s

theorem returnTo_effect (m : Cycles) (s : State) : Effect s [] (returnTo m s) :=
  effect_reading fun _ => effect_next (by constructor <;> simp) (by simp)

theorem returnFrom_effect (s : State) : Effect s [] (returnFrom s) := returnTo_effect _ s

theorem returnCc_effect (cc : Cond) (s : State) : Effect s [] (returnCc cc s) := by
  unfold returnCc; dsimp only; split
  · exact returnTo_effect _ s
  · exact retire_effect _ _ s

theorem restart_effect (t : Word) (s : State) : Effect s [s.sp - 2, s.sp - 2 + 1] (restart t s) := callTo_effect _ _ _ s

theorem idle_effect (s : State) : Effect s [] (idle s) := retire_effect _ _ s

theorem haltUnder_effect (policy : HaltPolicy) (s : State) : Effect s [] (haltUnder policy s) := by
  cases policy
  · exact idle_effect s
  · exact effect_fault s [] _

theorem undefUnder_effect (policy : UndefPolicy) (op : Byte) (s : State) : Effect s [] (undefUnder policy op s) := by
  cases policy
  · exact idle_effect s
  · exact effect_fault s [] _

theorem cbShift_effect (op : ShiftOp) (o : Operand8) (s : State) : Effect s (operandStores o s) (cbShift op o s) :=
  effect_reading fun _ => effect_writeOperand
    (by rintro u t ⟨⟩; exact ⟨by constructor <;> simp, Or.inr (by simpa using toByte_low _)⟩)

theorem cbBit_effect (n : BitVec 3) (o : Operand8) (s : State) : Effect s [] (cbBit n o s) :=
  effect_reading fun _ => effect_next (by constructor <;> simp) (Or.inr (by simpa using toByte_low _))

theorem cbRes_effect (n : BitVec 3) (o : Operand8) (s : State) : Effect s (operandStores o s) (cbRes n o s) :=
  effect_reading fun _ => effect_writeOperand (by rintro u t ⟨⟩; exact ⟨by constructor <;> simp, by simp⟩)

theorem cbSet_effect (n : BitVec 3) (o : Operand8) (s : State) : Effect s (operandStores o s) (cbSet n o s) :=
  effect_reading fun _ => effect_writeOperand (by rintro u t ⟨⟩; exact ⟨by constructor <;> simp, by simp⟩)

theorem fieldX_lt (n : Byte) : fieldX n < 4 := by have := n.isLt; unfold fieldX; omega

theorem secondary_effect (n : Byte) (s : State) :
    Effect s (if operandField (fieldZ n) = .indHl ∧ fieldX n ≠ 1 then [s.hl] else []) (secondary n s) := by
  have key : ∀ o : Operand8, operandStores o s = if o = .indHl then [s.hl] else [] := by
    rintro (r | _) <;> simp [operandStores]
  have hx := fieldX_lt n
  have hc : fieldX n = 0 ∨ fieldX n = 1 ∨ fieldX n = 2 ∨ fieldX n = 3 := by omega
  rcases hc with h | h | h | h <;> simp only [secondary, h]
  · simpa [key] using cbShift_effect (shiftField (fieldY n)) (operandField (fieldZ n)) s
  · simpa using cbBit_effect (BitVec.ofNat 3 (fieldY n)) (operandField (fieldZ n)) s
  · simpa [key] using cbRes_effect (BitVec.ofNat 3 (fieldY n)) (operandField (fieldZ n)) s
  · simpa [key] using cbSet_effect (BitVec.ofNat 3 (fieldY n)) (operandField (fieldZ n)) s

/-! ## Every instruction -/

/-- If `exec` answers a next state, it is the old one with the instruction's stores delivered, as far as bus and cartridge
go, and F is kept or has its low bits 0. -/
theorem exec_effect (i : Instr) (s : State) : Effect s (storesAt i s) (exec i s) := by
  cases i with
  | nop => exact idle_effect s
  | ldBcD16 d16 => exact ldPairImm_effect .bc d16 s
  | ldIndBcA => exact ldTo_effect s.bc s.a 1 2 s
  | incBc => exact addToPair_effect .bc 1 s
  | incB => exact incOperand_effect (.reg .b) s
  | decB => exact decOperand_effect (.reg .b) s
  | ldBD8 d8 => exact ldRegImm_effect .b d8 s
  | rlca => exact accRotate_effect .rlca s
  | ldIndA16Sp a16 => exact ldTo16_effect a16 s.sp 3 5 s
  | addHlBc => exact addHlPair_effect .bc s
  | ldAIndBc => exact ldRegFrom_effect .a s.bc 1 2 s
  | decBc => exact addToPair_effect .bc (-1) s
  | incC => exact incOperand_effect (.reg .c) s
  | decC => exact decOperand_effect (.reg .c) s
  | ldCD8 d8 => exact ldRegImm_effect .c d8 s
  | rrca => exact accRotate_effect .rrca s
  | stop => exact idle_effect s
  | ldDeD16 d16 => exact ldPairImm_effect .de d16 s
  | ldIndDeA => exact ldTo_effect s.de s.a 1 2 s
  | incDe => exact addToPair_effect .de 1 s
  | incD => exact incOperand_effect (.reg .d) s
  | decD => exact decOperand_effect (.reg .d) s
  | ldDD8 d8 => exact ldRegImm_effect .d d8 s
  | rla => exact accRotate_effect .rla s
  | jrE8 e8 => exact jumpRel_effect e8 s
  | addHlDe => exact addHlPair_effect .de s
  | ldAIndDe => exact ldRegFrom_effect .a s.de 1 2 s
  | decDe => exact addToPair_effect .de (-1) s
  | incE => exact incOperand_effect (.reg .e) s
  | decE => exact decOperand_effect (.reg .e) s
  | ldED8 d8 => exact ldRegImm_effect .e d8 s
  | rra => exact accRotate_effect .rra s
  | jrNzE8 e8 => exact jumpRelCc_effect .nz e8 s
  | ldHlD16 d16 => exact ldPairImm_effect .hl d16 s
  | ldIndHlIncA => exact ldToHlStep_effect 1 s
  | incHl => exact addToPair_effect .hl 1 s
  | incH => exact incOperand_effect (.reg .h) s
  | decH => exact decOperand_effect (.reg .h) s
  | ldHD8 d8 => exact ldRegImm_effect .h d8 s
  | daa => exact decimalAdjust_effect s
  | jrZE8 e8 => exact jumpRelCc_effect .z e8 s
  | addHlHl => exact addHlPair_effect .hl s
  | ldAIndHlInc => exact ldFromHlStep_effect 1 s
  | decHl => exact addToPair_effect .hl (-1) s
  | incL => exact incOperand_effect (.reg .l) s
  | decL => exact decOperand_effect (.reg .l) s
  | ldLD8 d8 => exact ldRegImm_effect .l d8 s
  | cpl => exact complementA_effect s
  | jrNcE8 e8 => exact jumpRelCc_effect .nc e8 s
  | ldSpD16 d16 => exact ldPairImm_effect .sp d16 s
  | ldIndHlDecA => exact ldToHlStep_effect (-1) s
  | incSp => exact addToPair_effect .sp 1 s
  | incIndHl => exact incOperand_effect .indHl s
  | decIndHl => exact decOperand_effect .indHl s
  | ldIndHlD8 d8 => exact ldTo_effect s.hl d8 2 3 s
  | scf => exact setCarry_effect s
  | jrCE8 e8 => exact jumpRelCc_effect .c e8 s
  | addHlSp => exact addHlPair_effect .sp s
  | ldAIndHlDec => exact ldFromHlStep_effect (-1) s
  | decSp => exact addToPair_effect .sp (-1) s
  | incA => exact incOperand_effect (.reg .a) s
  | decA => exact decOperand_effect (.reg .a) s
  | ldAD8 d8 => exact ldRegImm_effect .a d8 s
  | ccf => exact complementCarry_effect s
  | ldBB => exact ldRegReg_effect .b .b s
  | ldBC => exact ldRegReg_effect .b .c s
  | ldBD => exact ldRegReg_effect .b .d s
  | ldBE => exact ldRegReg_effect .b .e s
  | ldBH => exact ldRegReg_effect .b .h s
  | ldBL => exact ldRegReg_effect .b .l s
  | ldBIndHl => exact ldRegFrom_effect .b s.hl 1 2 s
  | ldBA => exact ldRegReg_effect .b .a s
  | ldCB => exact ldRegReg_effect .c .b s
  | ldCC => exact ldRegReg_effect .c .c s
  | ldCD => exact ldRegReg_effect .c .d s
  | ldCE => exact ldRegReg_effect .c .e s
  | ldCH => exact ldRegReg_effect .c .h s
  | ldCL => exact ldRegReg_effect .c .l s
  | ldCIndHl => exact ldRegFrom_effect .c s.hl 1 2 s
  | ldCA => exact ldRegReg_effect .c .a s
  | ldDB => exact ldRegReg_effect .d .b s
  | ldDC => exact ldRegReg_effect .d .c s
  | ldDD => exact ldRegReg_effect .d .d s
  | ldDE => exact ldRegReg_effect .d .e s
  | ldDH => exact ldRegReg_effect .d .h s
  | ldDL => exact ldRegReg_effect .d .l s
  | ldDIndHl => exact ldRegFrom_effect .d s.hl 1 2 s
  | ldDA => exact ldRegReg_effect .d .a s
  | ldEB => exact ldRegReg_effect .e .b s
  | ldEC => exact ldRegReg_effect .e .c s
  | ldED => exact ldRegReg_effect .e .d s
  | ldEE => exact ldRegReg_effect .e .e s
  | ldEH => exact ldRegReg_effect .e .h s
  | ldEL => exact ldRegReg_effect .e .l s
  | ldEIndHl => exact ldRegFrom_effect .e s.hl 1 2 s
  | ldEA => exact ldRegReg_effect .e .a s
  | ldHB => exact ldRegReg_effect .h .b s
  | ldHC => exact ldRegReg_effect .h .c s
  | ldHD => exact ldRegReg_effect .h .d s
  | ldHE => exact ldRegReg_effect .h .e s
  | ldHH => exact ldRegReg_effect .h .h s
  | ldHL => exact ldRegReg_effect .h .l s
  | ldHIndHl => exact ldRegFrom_effect .h s.hl 1 2 s
  | ldHA => exact ldRegReg_effect .h .a s
  | ldLB => exact ldRegReg_effect .l .b s
  | ldLC => exact ldRegReg_effect .l .c s
  | ldLD => exact ldRegReg_effect .l .d s
  | ldLE => exact ldRegReg_effect .l .e s
  | ldLH => exact ldRegReg_effect .l .h s
  | ldLL => exact ldRegReg_effect .l .l s
  | ldLIndHl => exact ldRegFrom_effect .l s.hl 1 2 s
  | ldLA => exact ldRegReg_effect .l .a s
  | ldIndHlB => exact ldTo_effect s.hl (s.reg .b) 1 2 s
  | ldIndHlC => exact ldTo_effect s.hl (s.reg .c) 1 2 s
  | ldIndHlD => exact ldTo_effect s.hl (s.reg .d) 1 2 s
  | ldIndHlE => exact ldTo_effect s.hl (s.reg .e) 1 2 s
  | ldIndHlH => exact ldTo_effect s.hl (s.reg .h) 1 2 s
  | ldIndHlL => exact ldTo_effect s.hl (s.reg .l) 1 2 s
  | halt => exact haltUnder_effect Config.haltPolicy s
  | ldIndHlA => exact ldTo_effect s.hl (s.reg .a) 1 2 s
  | ldAB => exact ldRegReg_effect .a .b s
  | ldAC => exact ldRegReg_effect .a .c s
  | ldAD => exact ldRegReg_effect .a .d s
  | ldAE => exact ldRegReg_effect .a .e s
  | ldAH => exact ldRegReg_effect .a .h s
  | ldAL => exact ldRegReg_effect .a .l s
  | ldAIndHl => exact ldRegFrom_effect .a s.hl 1 2 s
  | ldAA => exact ldRegReg_effect .a .a s
  | addAB => exact aluOperand_effect .add (.reg .b) s
  | addAC => exact aluOperand_effect .add (.reg .c) s
  | addAD => exact aluOperand_effect .add (.reg .d) s
  | addAE => exact aluOperand_effect .add (.reg .e) s
  | addAH => exact aluOperand_effect .add (.reg .h) s
  | addAL => exact aluOperand_effect .add (.reg .l) s
  | addAIndHl => exact aluOperand_effect .add .indHl s
  | addAA => exact aluOperand_effect .add (.reg .a) s
  | adcAB => exact aluOperand_effect .adc (.reg .b) s
  | adcAC => exact aluOperand_effect .adc (.reg .c) s
  | adcAD => exact aluOperand_effect .adc (.reg .d) s
  | adcAE => exact aluOperand_effect .adc (.reg .e) s
  | adcAH => exact aluOperand_effect .adc (.reg .h) s
  | adcAL => exact aluOperand_effect .adc (.reg .l) s
  | adcAIndHl => exact aluOperand_effect .adc .indHl s
  | adcAA => exact aluOperand_effect .adc (.reg .a) s
  | subB => exact aluOperand_effect .sub (.reg .b) s
  | subC => exact aluOperand_effect .sub (.reg .c) s
  | subD => exact aluOperand_effect .sub (.reg .d) s
  | subE => exact aluOperand_effect .sub (.reg .e) s
  | subH => exact aluOperand_effect .sub (.reg .h) s
  | subL => exact aluOperand_effect .sub (.reg .l) s
  | subIndHl => exact aluOperand_effect .sub .indHl s
  | subA => exact aluOperand_effect .sub (.reg .a) s
  | sbcAB => exact aluOperand_effect .sbc (.reg .b) s
  | sbcAC => exact aluOperand_effect .sbc (.reg .c) s
  | sbcAD => exact aluOperand_effect .sbc (.reg .d) s
  | sbcAE => exact aluOperand_effect .sbc (.reg .e) s
  | sbcAH => exact aluOperand_effect .sbc (.reg .h) s
  | sbcAL => exact aluOperand_effect .sbc (.reg .l) s
  | sbcAIndHl => exact aluOperand_effect .sbc .indHl s
  | sbcAA => exact aluOperand_effect .sbc (.reg .a) s
  | andB => exact aluOperand_effect .and (.reg .b) s
  | andC => exact aluOperand_effect .and (.reg .c) s
  | andD => exact aluOperand_effect .and (.reg .d) s
  | andE => exact aluOperand_effect .and (.reg .e) s
  | andH => exact aluOperand_effect .and (.reg .h) s
  | andL => exact aluOperand_effect .and (.reg .l) s
  | andIndHl => exact aluOperand_effect .and .indHl s
  | andA => exact aluOperand_effect .and (.reg .a) s
  | xorB => exact aluOperand_effect .xor (.reg .b) s
  | xorC => exact aluOperand_effect .xor (.reg .c) s
  | xorD => exact aluOperand_effect .xor (.reg .d) s
  | xorE => exact aluOperand_effect .xor (.reg .e) s
  | xorH => exact aluOperand_effect .xor (.reg .h) s
  | xorL => exact aluOperand_effect .xor (.reg .l) s
  | xorIndHl => exact aluOperand_effect .xor .indHl s
  | xorA => exact aluOperand_effect .xor (.reg .a) s
  | orB => exact aluOperand_effect .or (.reg .b) s
  | orC => exact aluOperand_effect .or (.reg .c) s
  | orD => exact aluOperand_effect .or (.reg .d) s
  | orE => exact aluOperand_effect .or (.reg .e) s
  | orH => exact aluOperand_effect .or (.reg .h) s
  | orL => exact aluOperand_effect .or (.reg .l) s
  | orIndHl => exact aluOperand_effect .or .indHl s
  | orA => exact aluOperand_effect .or (.reg .a) s
  | cpB => exact aluOperand_effect .cp (.reg .b) s
  | cpC => exact aluOperand_effect .cp (.reg .c) s
  | cpD => exact aluOperand_effect .cp (.reg .d) s
  | cpE => exact aluOperand_effect .cp (.reg .e) s
  | cpH => exact aluOperand_effect .cp (.reg .h) s
  | cpL => exact aluOperand_effect .cp (.reg .l) s
  | cpIndHl => exact aluOperand_effect .cp .indHl s
  | cpA => exact aluOperand_effect .cp (.reg .a) s
  | retNz => exact returnCc_effect .nz s
  | popBc => exact popPair_effect .bc s
  | jpNzA16 a16 => exact jumpAbsCc_effect .nz a16 s
  | jpA16 a16 => exact jumpAbs_effect a16 s
  | callNzA16 a16 => exact callAbsCc_effect .nz a16 s
  | pushBc => exact pushPair_effect .bc s
  | addAD8 d8 => exact aluImm_effect .add d8 s
  | rst00 => exact restart_effect 0x00 s
  | retZ => exact returnCc_effect .z s
  | ret => exact returnFrom_effect s
  | jpZA16 a16 => exact jumpAbsCc_effect .z a16 s
  | prefixCb n => exact secondary_effect n s
  | callZA16 a16 => exact callAbsCc_effect .z a16 s
  | callA16 a16 => exact callAbs_effect a16 s
  | adcAD8 d8 => exact aluImm_effect .adc d8 s
  | rst08 => exact restart_effect 0x08 s
  | retNc => exact returnCc_effect .nc s
  | popDe => exact popPair_effect .de s
  | jpNcA16 a16 => exact jumpAbsCc_effect .nc a16 s
  | undefD3 => exact undefUnder_effect Config.undefPolicy 0xD3 s
  | callNcA16 a16 => exact callAbsCc_effect .nc a16 s
  | pushDe => exact pushPair_effect .de s
  | subD8 d8 => exact aluImm_effect .sub d8 s
  | rst10 => exact restart_effect 0x10 s
  | retC => exact returnCc_effect .c s
  | reti => exact returnFrom_effect s
  | jpCA16 a16 => exact jumpAbsCc_effect .c a16 s
  | undefDB => exact undefUnder_effect Config.undefPolicy 0xDB s
  | callCA16 a16 => exact callAbsCc_effect .c a16 s
  | undefDD => exact undefUnder_effect Config.undefPolicy 0xDD s
  | sbcAD8 d8 => exact aluImm_effect .sbc d8 s
  | rst18 => exact restart_effect 0x18 s
  | ldhIndA8A a8 => exact ldTo_effect (highPage a8) s.a 2 3 s
  | popHl => exact popPair_effect .hl s
  | ldIndCA => exact ldTo_effect (highPage s.c) s.a 1 2 s
  | undefE3 => exact undefUnder_effect Config.undefPolicy 0xE3 s
  | undefE4 => exact undefUnder_effect Config.undefPolicy 0xE4 s
  | pushHl => exact pushPair_effect .hl s
  | andD8 d8 => exact aluImm_effect .and d8 s
  | rst20 => exact restart_effect 0x20 s
  | addSpE8 e8 => exact adjustSp_effect e8 s
  | jpHl => exact jumpHl_effect s
  | ldIndA16A a16 => exact ldTo_effect a16 s.a 3 4 s
  | undefEB => exact undefUnder_effect Config.undefPolicy 0xEB s
  | undefEC => exact undefUnder_effect Config.undefPolicy 0xEC s
  | undefED => exact undefUnder_effect Config.undefPolicy 0xED s
  | xorD8 d8 => exact aluImm_effect .xor d8 s
  | rst28 => exact restart_effect 0x28 s
  | ldhAIndA8 a8 => exact ldRegFrom_effect .a (highPage a8) 2 3 s
  | popAf => exact popPair_effect .af s
  | ldAIndC => exact ldRegFrom_effect .a (highPage s.c) 1 2 s
  | di => exact idle_effect s
  | undefF4 => exact undefUnder_effect Config.undefPolicy 0xF4 s
  | pushAf => exact pushPair_effect .af s
  | orD8 d8 => exact aluImm_effect .or d8 s
  | rst30 => exact restart_effect 0x30 s
  | ldHlSpE8 e8 => exact ldHlAdjusted_effect e8 s
  | ldSpHl => exact ldSpFromHl_effect s
  | ldAIndA16 a16 => exact ldRegFrom_effect .a a16 3 4 s
  | ei => exact idle_effect s
  | undefFC => exact undefUnder_effect Config.undefPolicy 0xFC s
  | undefFD => exact undefUnder_effect Config.undefPolicy 0xFD s
  | cpD8 d8 => exact aluImm_effect .cp d8 s
  | rst38 => exact restart_effect 0x38 s
  | rlcB => exact cbShift_effect .rlc (.reg .b) s
  | rlcC => exact cbShift_effect .rlc (.reg .c) s
  | rlcD => exact cbShift_effect .rlc (.reg .d) s
  | rlcE => exact cbShift_effect .rlc (.reg .e) s
  | rlcH => exact cbShift_effect .rlc (.reg .h) s
  | rlcL => exact cbShift_effect .rlc (.reg .l) s
  | rlcIndHl => exact cbShift_effect .rlc .indHl s
  | rlcA => exact cbShift_effect .rlc (.reg .a) s
  | rrcB => exact cbShift_effect .rrc (.reg .b) s
  | rrcC => exact cbShift_effect .rrc (.reg .c) s
  | rrcD => exact cbShift_effect .rrc (.reg .d) s
  | rrcE => exact cbShift_effect .rrc (.reg .e) s
  | rrcH => exact cbShift_effect .rrc (.reg .h) s
  | rrcL => exact cbShift_effect .rrc (.reg .l) s
  | rrcIndHl => exact cbShift_effect .rrc .indHl s
  | rrcA => exact cbShift_effect .rrc (.reg .a) s
  | rlB => exact cbShift_effect .rl (.reg .b) s
  | rlC => exact cbShift_effect .rl (.reg .c) s
  | rlD => exact cbShift_effect .rl (.reg .d) s
  | rlE => exact cbShift_effect .rl (.reg .e) s
  | rlH => exact cbShift_effect .rl (.reg .h) s
  | rlL => exact cbShift_effect .rl (.reg .l) s
  | rlIndHl => exact cbShift_effect .rl .indHl s
  | rlA => exact cbShift_effect .rl (.reg .a) s
  | rrB => exact cbShift_effect .rr (.reg .b) s
  | rrC => exact cbShift_effect .rr (.reg .c) s
  | rrD => exact cbShift_effect .rr (.reg .d) s
  | rrE => exact cbShift_effect .rr (.reg .e) s
  | rrH => exact cbShift_effect .rr (.reg .h) s
  | rrL => exact cbShift_effect .rr (.reg .l) s
  | rrIndHl => exact cbShift_effect .rr .indHl s
  | rrA => exact cbShift_effect .rr (.reg .a) s
  | slaB => exact cbShift_effect .sla (.reg .b) s
  | slaC => exact cbShift_effect .sla (.reg .c) s
  | slaD => exact cbShift_effect .sla (.reg .d) s
  | slaE => exact cbShift_effect .sla (.reg .e) s
  | slaH => exact cbShift_effect .sla (.reg .h) s
  | slaL => exact cbShift_effect .sla (.reg .l) s
  | slaIndHl => exact cbShift_effect .sla .indHl s
  | slaA => exact cbShift_effect .sla (.reg .a) s
  | sraB => exact cbShift_effect .sra (.reg .b) s
  | sraC => exact cbShift_effect .sra (.reg .c) s
  | sraD => exact cbShift_effect .sra (.reg .d) s
  | sraE => exact cbShift_effect .sra (.reg .e) s
  | sraH => exact cbShift_effect .sra (.reg .h) s
  | sraL => exact cbShift_effect .sra (.reg .l) s
  | sraIndHl => exact cbShift_effect .sra .indHl s
  | sraA => exact cbShift_effect .sra (.reg .a) s
  | swapB => exact cbShift_effect .swap (.reg .b) s
  | swapC => exact cbShift_effect .swap (.reg .c) s
  | swapD => exact cbShift_effect .swap (.reg .d) s
  | swapE => exact cbShift_effect .swap (.reg .e) s
  | swapH => exact cbShift_effect .swap (.reg .h) s
  | swapL => exact cbShift_effect .swap (.reg .l) s
  | swapIndHl => exact cbShift_effect .swap .indHl s
  | swapA => exact cbShift_effect .swap (.reg .a) s
  | srlB => exact cbShift_effect .srl (.reg .b) s
  | srlC => exact cbShift_effect .srl (.reg .c) s
  | srlD => exact cbShift_effect .srl (.reg .d) s
  | srlE => exact cbShift_effect .srl (.reg .e) s
  | srlH => exact cbShift_effect .srl (.reg .h) s
  | srlL => exact cbShift_effect .srl (.reg .l) s
  | srlIndHl => exact cbShift_effect .srl .indHl s
  | srlA => exact cbShift_effect .srl (.reg .a) s
  | bit0B => exact cbBit_effect 0 (.reg .b) s
  | bit0C => exact cbBit_effect 0 (.reg .c) s
  | bit0D => exact cbBit_effect 0 (.reg .d) s
  | bit0E => exact cbBit_effect 0 (.reg .e) s
  | bit0H => exact cbBit_effect 0 (.reg .h) s
  | bit0L => exact cbBit_effect 0 (.reg .l) s
  | bit0IndHl => exact cbBit_effect 0 .indHl s
  | bit0A => exact cbBit_effect 0 (.reg .a) s
  | bit1B => exact cbBit_effect 1 (.reg .b) s
  | bit1C => exact cbBit_effect 1 (.reg .c) s
  | bit1D => exact cbBit_effect 1 (.reg .d) s
  | bit1E => exact cbBit_effect 1 (.reg .e) s
  | bit1H => exact cbBit_effect 1 (.reg .h) s
  | bit1L => exact cbBit_effect 1 (.reg .l) s
  | bit1IndHl => exact cbBit_effect 1 .indHl s
  | bit1A => exact cbBit_effect 1 (.reg .a) s
  | bit2B => exact cbBit_effect 2 (.reg .b) s
  | bit2C => exact cbBit_effect 2 (.reg .c) s
  | bit2D => exact cbBit_effect 2 (.reg .d) s
  | bit2E => exact cbBit_effect 2 (.reg .e) s
  | bit2H => exact cbBit_effect 2 (.reg .h) s
  | bit2L => exact cbBit_effect 2 (.reg .l) s
  | bit2IndHl => exact cbBit_effect 2 .indHl s
  | bit2A => exact cbBit_effect 2 (.reg .a) s
  | bit3B => exact cbBit_effect 3 (.reg .b) s
  | bit3C => exact cbBit_effect 3 (.reg .c) s
  | bit3D => exact cbBit_effect 3 (.reg .d) s
  | bit3E => exact cbBit_effect 3 (.reg .e) s
  | bit3H => exact cbBit_effect 3 (.reg .h) s
  | bit3L => exact cbBit_effect 3 (.reg .l) s
  | bit3IndHl => exact cbBit_effect 3 .indHl s
  | bit3A => exact cbBit_effect 3 (.reg .a) s
  | bit4B => exact cbBit_effect 4 (.reg .b) s
  | bit4C => exact cbBit_effect 4 (.reg .c) s
  | bit4D => exact cbBit_effect 4 (.reg .d) s
  | bit4E => exact cbBit_effect 4 (.reg .e) s
  | bit4H => exact cbBit_effect 4 (.reg .h) s
  | bit4L => exact cbBit_effect 4 (.reg .l) s
  | bit4IndHl => exact cbBit_effect 4 .indHl s
  | bit4A => exact cbBit_effect 4 (.reg .a) s
  | bit5B => exact cbBit_effect 5 (.reg .b) s
  | bit5C => exact cbBit_effect 5 (.reg .c) s
  | bit5D => exact cbBit_effect 5 (.reg .d) s
  | bit5E => exact cbBit_effect 5 (.reg .e) s
  | bit5H => exact cbBit_effect 5 (.reg .h) s
  | bit5L => exact cbBit_effect 5 (.reg .l) s
  | bit5IndHl => exact cbBit_effect 5 .indHl s
  | bit5A => exact cbBit_effect 5 (.reg .a) s
  | bit6B => exact cbBit_effect 6 (.reg .b) s
  | bit6C => exact cbBit_effect 6 (.reg .c) s
  | bit6D => exact cbBit_effect 6 (.reg .d) s
  | bit6E => exact cbBit_effect 6 (.reg .e) s
  | bit6H => exact cbBit_effect 6 (.reg .h) s
  | bit6L => exact cbBit_effect 6 (.reg .l) s
  | bit6IndHl => exact cbBit_effect 6 .indHl s
  | bit6A => exact cbBit_effect 6 (.reg .a) s
  | bit7B => exact cbBit_effect 7 (.reg .b) s
  | bit7C => exact cbBit_effect 7 (.reg .c) s
  | bit7D => exact cbBit_effect 7 (.reg .d) s
  | bit7E => exact cbBit_effect 7 (.reg .e) s
  | bit7H => exact cbBit_effect 7 (.reg .h) s
  | bit7L => exact cbBit_effect 7 (.reg .l) s
  | bit7IndHl => exact cbBit_effect 7 .indHl s
  | bit7A => exact cbBit_effect 7 (.reg .a) s
  | res0B => exact cbRes_effect 0 (.reg .b) s
  | res0C => exact cbRes_effect 0 (.reg .c) s
  | res0D => exact cbRes_effect 0 (.reg .d) s
  | res0E => exact cbRes_effect 0 (.reg .e) s
  | res0H => exact cbRes_effect 0 (.reg .h) s
  | res0L => exact cbRes_effect 0 (.reg .l) s
  | res0IndHl => exact cbRes_effect 0 .indHl s
  | res0A => exact cbRes_effect 0 (.reg .a) s
  | res1B => exact cbRes_effect 1 (.reg .b) s
  | res1C => exact cbRes_effect 1 (.reg .c) s
  | res1D => exact cbRes_effect 1 (.reg .d) s
  | res1E => exact cbRes_effect 1 (.reg .e) s
  | res1H => exact cbRes_effect 1 (.reg .h) s
  | res1L => exact cbRes_effect 1 (.reg .l) s
  | res1IndHl => exact cbRes_effect 1 .indHl s
  | res1A => exact cbRes_effect 1 (.reg .a) s
  | res2B => exact cbRes_effect 2 (.reg .b) s
  | res2C => exact cbRes_effect 2 (.reg .c) s
  | res2D => exact cbRes_effect 2 (.reg .d) s
  | res2E => exact cbRes_effect 2 (.reg .e) s
  | res2H => exact cbRes_effect 2 (.reg .h) s
  | res2L => exact cbRes_effect 2 (.reg .l) s
  | res2IndHl => exact cbRes_effect 2 .indHl s
  | res2A => exact cbRes_effect 2 (.reg .a) s
  | res3B => exact cbRes_effect 3 (.reg .b) s
  | res3C => exact cbRes_effect 3 (.reg .c) s
  | res3D => exact cbRes_effect 3 (.reg .d) s
  | res3E => exact cbRes_effect 3 (.reg .e) s
  | res3H => exact cbRes_effect 3 (.reg .h) s
  | res3L => exact cbRes_effect 3 (.reg .l) s
  | res3IndHl => exact cbRes_effect 3 .indHl s
  | res3A => exact cbRes_effect 3 (.reg .a) s
  | res4B => exact cbRes_effect 4 (.reg .b) s
  | res4C => exact cbRes_effect 4 (.reg .c) s
  | res4D => exact cbRes_effect 4 (.reg .d) s
  | res4E => exact cbRes_effect 4 (.reg .e) s
  | res4H => exact cbRes_effect 4 (.reg .h) s
  | res4L => exact cbRes_effect 4 (.reg .l) s
  | res4IndHl => exact cbRes_effect 4 .indHl s
  | res4A => exact cbRes_effect 4 (.reg .a) s
  | res5B => exact cbRes_effect 5 (.reg .b) s
  | res5C => exact cbRes_effect 5 (.reg .c) s
  | res5D => exact cbRes_effect 5 (.reg .d) s
  | res5E => exact cbRes_effect 5 (.reg .e) s
  | res5H => exact cbRes_effect 5 (.reg .h) s
  | res5L => exact cbRes_effect 5 (.reg .l) s
  | res5IndHl => exact cbRes_effect 5 .indHl s
  | res5A => exact cbRes_effect 5 (.reg .a) s
  | res6B => exact cbRes_effect 6 (.reg .b) s
  | res6C => exact cbRes_effect 6 (.reg .c) s
  | res6D => exact cbRes_effect 6 (.reg .d) s
  | res6E => exact cbRes_effect 6 (.reg .e) s
  | res6H => exact cbRes_effect 6 (.reg .h) s
  | res6L => exact cbRes_effect 6 (.reg .l) s
  | res6IndHl => exact cbRes_effect 6 .indHl s
  | res6A => exact cbRes_effect 6 (.reg .a) s
  | res7B => exact cbRes_effect 7 (.reg .b) s
  | res7C => exact cbRes_effect 7 (.reg .c) s
  | res7D => exact cbRes_effect 7 (.reg .d) s
  | res7E => exact cbRes_effect 7 (.reg .e) s
  | res7H => exact cbRes_effect 7 (.reg .h) s
  | res7L => exact cbRes_effect 7 (.reg .l) s
  | res7IndHl => exact cbRes_effect 7 .indHl s
  | res7A => exact cbRes_effect 7 (.reg .a) s
  | set0B => exact cbSet_effect 0 (.reg .b) s
  | set0C => exact cbSet_effect 0 (.reg .c) s
  | set0D => exact cbSet_effect 0 (.reg .d) s
  | set0E => exact cbSet_effect 0 (.reg .e) s
  | set0H => exact cbSet_effect 0 (.reg .h) s
  | set0L => exact cbSet_effect 0 (.reg .l) s
  | set0IndHl => exact cbSet_effect 0 .indHl s
  | set0A => exact cbSet_effect 0 (.reg .a) s
  | set1B => exact cbSet_effect 1 (.reg .b) s
  | set1C => exact cbSet_effect 1 (.reg .c) s
  | set1D => exact cbSet_effect 1 (.reg .d) s
  | set1E => exact cbSet_effect 1 (.reg .e) s
  | set1H => exact cbSet_effect 1 (.reg .h) s
  | set1L => exact cbSet_effect 1 (.reg .l) s
  | set1IndHl => exact cbSet_effect 1 .indHl s
  | set1A => exact cbSet_effect 1 (.reg .a) s
  | set2B => exact cbSet_effect 2 (.reg .b) s
  | set2C => exact cbSet_effect 2 (.reg .c) s
  | set2D => exact cbSet_effect 2 (.reg .d) s
  | set2E => exact cbSet_effect 2 (.reg .e) s
  | set2H => exact cbSet_effect 2 (.reg .h) s
  | set2L => exact cbSet_effect 2 (.reg .l) s
  | set2IndHl => exact cbSet_effect 2 .indHl s
  | set2A => exact cbSet_effect 2 (.reg .a) s
  | set3B => exact cbSet_effect 3 (.reg .b) s
  | set3C => exact cbSet_effect 3 (.reg .c) s
  | set3D => exact cbSet_effect 3 (.reg .d) s
  | set3E => exact cbSet_effect 3 (.reg .e) s
  | set3H => exact cbSet_effect 3 (.reg .h) s
  | set3L => exact cbSet_effect 3 (.reg .l) s
  | set3IndHl => exact cbSet_effect 3 .indHl s
  | set3A => exact cbSet_effect 3 (.reg .a) s
  | set4B => exact cbSet_effect 4 (.reg .b) s
  | set4C => exact cbSet_effect 4 (.reg .c) s
  | set4D => exact cbSet_effect 4 (.reg .d) s
  | set4E => exact cbSet_effect 4 (.reg .e) s
  | set4H => exact cbSet_effect 4 (.reg .h) s
  | set4L => exact cbSet_effect 4 (.reg .l) s
  | set4IndHl => exact cbSet_effect 4 .indHl s
  | set4A => exact cbSet_effect 4 (.reg .a) s
  | set5B => exact cbSet_effect 5 (.reg .b) s
  | set5C => exact cbSet_effect 5 (.reg .c) s
  | set5D => exact cbSet_effect 5 (.reg .d) s
  | set5E => exact cbSet_effect 5 (.reg .e) s
  | set5H => exact cbSet_effect 5 (.reg .h) s
  | set5L => exact cbSet_effect 5 (.reg .l) s
  | set5IndHl => exact cbSet_effect 5 .indHl s
  | set5A => exact cbSet_effect 5 (.reg .a) s
  | set6B => exact cbSet_effect 6 (.reg .b) s
  | set6C => exact cbSet_effect 6 (.reg .c) s
  | set6D => exact cbSet_effect 6 (.reg .d) s
  | set6E => exact cbSet_effect 6 (.reg .e) s
  | set6H => exact cbSet_effect 6 (.reg .h) s
  | set6L => exact cbSet_effect 6 (.reg .l) s
  | set6IndHl => exact cbSet_effect 6 .indHl s
  | set6A => exact cbSet_effect 6 (.reg .a) s
  | set7B => exact cbSet_effect 7 (.reg .b) s
  | set7C => exact cbSet_effect 7 (.reg .c) s
  | set7D => exact cbSet_effect 7 (.reg .d) s
  | set7E => exact cbSet_effect 7 (.reg .e) s
  | set7H => exact cbSet_effect 7 (.reg .h) s
  | set7L => exact cbSet_effect 7 (.reg .l) s
  | set7IndHl => exact cbSet_effect 7 .indHl s
  | set7A => exact cbSet_effect 7 (.reg .a) s

end Sys2Proof.Machine
end

