-- ==== Sys2Proof/Laws/Words.lean ====
section
/-! SUPPORT. Words, halves and flag bytes as numbers and as concatenations, and the addresses of the high page and the
stack. -/

namespace Sys2Proof.Machine

theorem toNat_append_bytes (h l : Byte) : (h ++ l : Word).toNat = h.toNat * 256 + l.toNat := by
  have hl := l.isLt
  show (BitVec.append h l).toNat = _
  rw [show BitVec.append h l = (h ++ l : BitVec (8 + 8)) from rfl, BitVec.toNat_append,
    ← Nat.shiftLeft_add_eq_or_of_lt hl, Nat.shiftLeft_eq]

/-- A pair is its high half times 256 plus its low half (R31). -/
theorem toNat_join (h l : Byte) : (join h l).toNat = h.toNat * 256 + l.toNat := by
  have hh := h.isLt
  have hl := l.isLt
  unfold join
  rw [BitVec.toNat_or, BitVec.toNat_shiftLeft, BitVec.toNat_setWidth, BitVec.toNat_setWidth,
    Nat.mod_eq_of_lt (show h.toNat < 2 ^ 16 by omega), Nat.mod_eq_of_lt (show l.toNat < 2 ^ 16 by omega),
    Nat.mod_eq_of_lt (by rw [Nat.shiftLeft_eq]; omega), ← Nat.shiftLeft_add_eq_or_of_lt hl, Nat.shiftLeft_eq]

theorem join_eq_append (h l : Byte) : join h l = h ++ l := by
  apply BitVec.eq_of_toNat_eq
  rw [toNat_join, toNat_append_bytes]

theorem toNat_loByte (v : Word) : (loByte v).toNat = v.toNat % 256 := by
  unfold loByte
  rw [BitVec.extractLsb'_toNat]
  simp

theorem toNat_hiByte (v : Word) : (hiByte v).toNat = v.toNat / 256 := by
  have := v.isLt
  unfold hiByte
  rw [BitVec.extractLsb'_toNat, Nat.shiftRight_eq_div_pow]
  omega

/-- The high page's addresses (R162). -/
theorem highPage_eq (o : Byte) : highPage o = 0xFF00 + o.setWidth 16 := by
  have := o.isLt
  apply BitVec.eq_of_toNat_eq
  unfold highPage
  rw [toNat_join]
  simp
  omega

theorem add_neg_one (w : Word) : w + (-1) = w - 1 := by
  apply BitVec.eq_of_toNat_eq
  simp [BitVec.toNat_sub]
  omega

/-- The two stack bytes of a push are at SP - 2 and SP - 1. -/
theorem sub_two_add_one (w : Word) : w - 2 + 1 = w - 1 := by
  apply BitVec.eq_of_toNat_eq
  simp
  omega

/-- The two forms of a flags byte (R33). -/
theorem packFlags_eq (z n h c : Bool) : packFlags z n h c = Flags.toByte ⟨z, n, h, c⟩ := by
  cases z <;> cases n <;> cases h <;> cases c <;> rfl

/-- The flags read back as they were written. -/
@[simp] theorem ofByte_toByte (fl : Flags) : Flags.ofByte fl.toByte = fl := by
  obtain ⟨z, n, h, c⟩ := fl
  cases z <;> cases n <;> cases h <;> cases c <;> rfl

/-- Where a read answers, a write finds a handler. -/
theorem windowOpen_of_busRead {s : State} {a : Word} {v : Byte} (h : s.busRead a = .ok v) : s.windowOpen a = true := by
  unfold State.windowOpen
  unfold State.busRead State.fromCart at h
  cases hd : decodeAddr a <;> simp [hd, Region.isCart] at h ⊢ <;> cases hc : s.cart <;> simp [hc] at h ⊢

/-- The high page lies outside the cartridge windows. -/
theorem windowOpen_highPage (s : State) (o : Byte) : s.windowOpen (highPage o) = true := by
  have ho := o.isLt
  have hn : (highPage o).toNat = 0xFF00 + o.toNat := by
    unfold highPage
    rw [toNat_join]
    rfl
  have hr := covers_decodeAddr (highPage o)
  unfold State.windowOpen
  cases hd : decodeAddr (highPage o) <;> simp [Region.isCart] <;> rw [hd] at hr <;> simp only [Region.covers] at hr <;> omega

/-- With a cartridge loaded every address has a handler (R75). -/
theorem windowOpen_of_cart {s : State} {ct : Cart} (h : s.cart = some ct) (a : Word) : s.windowOpen a = true := by
  simp [State.windowOpen, h]

/-- A write does not see SP. -/
theorem deliver_setSp (s : State) (v a : Word) (b : Byte) : (s.setSp v).deliver a b = (s.deliver a b).setSp v := by
  unfold State.deliver
  cases decodeAddr a <;> try rfl
  simp only [State.ioWrite]
  split
  · rfl
  · split <;> rfl

/-- A push with both bytes' handlers present. -/
theorem push16_of_open {s : State} (h1 : s.windowOpen (s.sp - 2) = true) (h2 : s.windowOpen (s.sp - 2 + 1) = true) (v : Word) :
    s.push16 v = .ok (((s.setSp (s.sp - 2)).deliver (s.sp - 2) (loByte v)).deliver (s.sp - 2 + 1) (hiByte v)) :=
  push16_ok.mpr ⟨h1, h2, rfl⟩

theorem busWrite16_of_closed {s : State} {a : Word} (h : s.windowOpen a = false ∨ s.windowOpen (a + 1) = false) (v : Word) :
    s.busWrite16 a v = .error .noCartridge := by
  unfold State.busWrite16
  cases h1 : s.windowOpen a with
  | false => rw [busWrite_of_closed h1]
  | true =>
    have h2 := h.resolve_left (by simp [h1])
    rw [busWrite_of_open h1]
    exact busWrite_of_closed (by simpa using h2) _

theorem push16_of_closed {s : State} (h : s.windowOpen (s.sp - 2) = false ∨ s.windowOpen (s.sp - 2 + 1) = false) (v : Word) :
    s.push16 v = .error .noCartridge :=
  busWrite16_of_closed (s := s.setSp (s.sp - 2)) h v

/-- A 16-bit read answers exactly where both byte reads do (R73). -/
theorem busRead16_ok {s : State} {a v : Word} :
    s.busRead16 a = .ok v ↔ ∃ lo hi, s.busRead a = .ok lo ∧ s.busRead (a + 1) = .ok hi ∧ v = join hi lo := by
  unfold State.busRead16
  cases s.busRead a <;> simp
  cases s.busRead (a + 1) <;> simp [eq_comm]

theorem busRead16_error {s : State} {a : Word} {r : Fault} :
    s.busRead16 a = .error r ↔ s.busRead a = .error r ∨ (∃ lo, s.busRead a = .ok lo ∧ s.busRead (a + 1) = .error r) := by
  unfold State.busRead16
  cases s.busRead a <;> simp
  cases s.busRead (a + 1) <;> simp

/-! ## Which region an address lies in (R94) -/

theorem decodeAddr_vram {a : Word} (h : 0x8000 ≤ a.toNat ∧ a.toNat < 0xA000) : decodeAddr a = .vram :=
  decodeAddr_of_covers (r := .vram) h

theorem decodeAddr_wram {a : Word} (h : 0xC000 ≤ a.toNat ∧ a.toNat < 0xE000) : decodeAddr a = .wram :=
  decodeAddr_of_covers (r := .wram) h

theorem decodeAddr_mirror {a : Word} (h : 0xE000 ≤ a.toNat ∧ a.toNat < 0xFE00) : decodeAddr a = .mirror :=
  decodeAddr_of_covers (r := .mirror) h

theorem decodeAddr_oam {a : Word} (h : 0xFE00 ≤ a.toNat ∧ a.toNat < 0xFEA0) : decodeAddr a = .oam :=
  decodeAddr_of_covers (r := .oam) h

theorem decodeAddr_unmapped {a : Word} (h : 0xFEA0 ≤ a.toNat ∧ a.toNat < 0xFF00) : decodeAddr a = .unmapped :=
  decodeAddr_of_covers (r := .unmapped) h

theorem decodeAddr_io {a : Word} (h : 0xFF00 ≤ a.toNat ∧ a.toNat < 0xFF80) : decodeAddr a = .io :=
  decodeAddr_of_covers (r := .io) h

theorem decodeAddr_hram {a : Word} (h : 0xFF80 ≤ a.toNat ∧ a.toNat < 0xFFFF) : decodeAddr a = .hram :=
  decodeAddr_of_covers (r := .hram) h

theorem decodeAddr_ie {a : Word} (h : a.toNat = 0xFFFF) : decodeAddr a = .ie :=
  decodeAddr_of_covers (r := .ie) h

theorem decodeAddr_romFixed {a : Word} (h : a.toNat < 0x4000) : decodeAddr a = .romFixed :=
  decodeAddr_of_covers (r := .romFixed) h

theorem decodeAddr_romSwitch {a : Word} (h : 0x4000 ≤ a.toNat ∧ a.toNat < 0x8000) : decodeAddr a = .romSwitch :=
  decodeAddr_of_covers (r := .romSwitch) h

theorem decodeAddr_extRam {a : Word} (h : 0xA000 ≤ a.toNat ∧ a.toNat < 0xC000) : decodeAddr a = .extRam :=
  decodeAddr_of_covers (r := .extRam) h

end Sys2Proof.Machine
end

