-- ==== Sys2Proof/Laws/Invariant.lean ====
section
/-! SUPPORT. What a bus write keeps: the parts of the invariant (`State.inv`) and the completeness of the cartridge
(`State.ready`). -/

namespace Sys2Proof.Machine

theorem cart_inv_iff (ct : Cart) :
    ct.inv = true ↔
      ct.image.cells.wf = true ∧ ct.image.cells.keysIn (fun k => decide (k < ct.image.size)) = true ∧ ct.eram.wf = true ∧
        ct.eram.keysIn (fun k => decide (k < 0x8000)) = true ∧ ct.scheme = selectScheme ct.image ∧
        ct.romBank.extractLsb' 0 5 ≠ 0 ∧ (ct.mode = .largeRam ∨ ct.ramBank = 0) ∧ (ct.scheme = .type1 ∨ ct.eram = []) := by
  simp [Cart.inv, and_assoc]

theorem inv_iff (s : State) :
    s.inv = true ↔
      s.f.extractLsb' 0 4 = 0 ∧ s.ram.wf = true ∧ s.ram.keysIn isStorageIndex = true ∧ ∀ ct, s.cart = some ct → ct.inv = true := by
  unfold State.inv
  cases s.cart <;> simp [and_assoc]

theorem writeRomBankLow_inv {ct : Cart} (h : ct.inv = true) (v : Byte) : (ct.writeRomBankLow v).inv = true := by
  rw [cart_inv_iff] at h ⊢
  obtain ⟨h1, h2, h3, h4, h5, h6, h7, h8⟩ := h
  refine ⟨h1, h2, h3, h4, h5, ?_, h7, h8⟩
  have key : ∀ l : BitVec 5, l ≠ 0 → ((ct.romBank &&& 0x60) ||| l.setWidth 7).extractLsb' 0 5 ≠ 0 := by
    intro l hl h
    refine hl ?_
    rw [← h]
    apply BitVec.eq_of_getLsbD_eq
    intro i hi
    have h60 : (0x60 : BitVec 7).getLsbD i = false := by
      rcases (by omega : i = 0 ∨ i = 1 ∨ i = 2 ∨ i = 3 ∨ i = 4) with h | h | h | h | h <;> subst h <;> rfl
    rw [BitVec.getLsbD_extractLsb', Nat.zero_add, BitVec.getLsbD_or, BitVec.getLsbD_and, h60, BitVec.getLsbD_setWidth]
    simp [hi]
    omega
  exact key _ (by split <;> simp_all)

theorem writeBankHigh_inv {ct : Cart} (h : ct.inv = true) (v : Byte) : (ct.writeBankHigh v).inv = true := by
  unfold Cart.writeBankHigh
  rw [cart_inv_iff] at h
  obtain ⟨h1, h2, h3, h4, h5, h6, h7, h8⟩ := h
  split <;> rename_i hm <;> rw [cart_inv_iff]
  · refine ⟨h1, h2, h3, h4, h5, ?_, h7, h8⟩
    intro h
    refine h6 ?_
    rw [← h]
    apply BitVec.eq_of_getLsbD_eq
    intro i hi
    have h1f : (0x1F : BitVec 7).getLsbD i = true := by
      rcases (by omega : i = 0 ∨ i = 1 ∨ i = 2 ∨ i = 3 ∨ i = 4) with h | h | h | h | h <;> subst h <;> rfl
    simp only [BitVec.getLsbD_extractLsb', Nat.zero_add, BitVec.getLsbD_or, BitVec.getLsbD_and, h1f, BitVec.getLsbD_shiftLeft]
    simp [hi]
    try omega
  · exact ⟨h1, h2, h3, h4, h5, h6, Or.inl hm, h8⟩

theorem writeMode_inv {ct : Cart} (h : ct.inv = true) (v : Byte) : (ct.writeMode v).inv = true := by
  unfold Cart.writeMode
  rw [cart_inv_iff] at h
  obtain ⟨h1, h2, h3, h4, h5, h6, h7, h8⟩ := h
  split <;> rw [cart_inv_iff]
  · exact ⟨h1, h2, h3, h4, h5, h6, Or.inl rfl, h8⟩
  · exact ⟨h1, h2, h3, h4, h5, h6, Or.inr rfl, h8⟩

theorem writeRamEnable_inv {ct : Cart} (h : ct.inv = true) (v : Byte) : (ct.writeRamEnable v).inv = true := by
  rw [cart_inv_iff] at h ⊢
  exact h

theorem writeFixed_inv {ct : Cart} (h : ct.inv = true) (a : Word) (v : Byte) : (ct.writeFixed a v).inv = true := by
  unfold Cart.writeFixed
  split
  · exact h
  · split
    · exact writeRamEnable_inv h v
    · exact writeRomBankLow_inv h v

theorem writeSwitch_inv {ct : Cart} (h : ct.inv = true) (a : Word) (v : Byte) : (ct.writeSwitch a v).inv = true := by
  unfold Cart.writeSwitch
  split
  · exact h
  · split
    · exact writeBankHigh_inv h v
    · exact writeMode_inv h v

/-- The external RAM index stays within the 32 KiB (R113). -/
theorem eramIndex_lt (ct : Cart) {a : Word} (ha : a.toNat < 0xC000) : ct.eramIndex a < 0x8000 := by
  have := ct.ramBank.isLt
  unfold Cart.eramIndex
  omega

theorem writeRam_inv {ct : Cart} (h : ct.inv = true) {a : Word} (ha : a.toNat < 0xC000) (v : Byte) :
    (ct.writeRam a v).inv = true := by
  unfold Cart.writeRam
  split <;> rename_i hs
  · exact h
  · rw [cart_inv_iff] at h ⊢
    obtain ⟨h1, h2, h3, h4, h5, h6, h7, h8⟩ := h
    exact ⟨h1, h2, Memory.set_wf h3 _ _, Memory.set_keysIn h4 (by simpa using eramIndex_lt ct ha) _, h5, h6, h7, Or.inl hs⟩

/-- A bus write keeps the invariant. -/
theorem deliver_inv {s : State} (h : s.inv = true) (a : Word) (v : Byte) : (s.deliver a v).inv = true := by
  have hr := covers_decodeAddr a
  have store : (decodeAddr a = .vram ∨ decodeAddr a = .wram ∨ decodeAddr a = .mirror ∨ decodeAddr a = .oam ∨ decodeAddr a = .hram) →
      (s.setRam (storageIndex a) v).inv = true := by
    intro hd
    rw [inv_iff] at h ⊢
    exact ⟨h.1, Memory.set_wf h.2.1 _ _, Memory.set_keysIn h.2.2.1 (isStorageIndex_storageIndex hd) _, h.2.2.2⟩
  have cart : ∀ k : Cart → Cart, (∀ ct, ct.inv = true → (k ct).inv = true) → (s.mapCart k).inv = true := by
    intro k hk
    rw [inv_iff] at h ⊢
    refine ⟨h.1, h.2.1, h.2.2.1, fun ct' hct => ?_⟩
    cases hc : s.cart with
    | none => simp [State.mapCart, hc] at hct
    | some ct =>
      simp only [State.mapCart, hc, Option.map_some, Option.some.injEq] at hct
      exact hct ▸ hk ct (h.2.2.2 ct hc)
  unfold State.deliver
  cases hd : decodeAddr a <;> rw [hd] at hr <;> simp only [Region.covers] at hr ⊢
  · exact cart _ fun ct hi => writeFixed_inv hi a v
  · exact cart _ fun ct hi => writeSwitch_inv hi a v
  · exact store (by simp [hd])
  · exact cart _ fun ct hi => writeRam_inv hi hr.2 v
  · exact store (by simp [hd])
  · exact store (by simp [hd])
  · exact store (by simp [hd])
  · exact h
  · unfold State.ioWrite
    rw [inv_iff] at h
    split
    · rw [inv_iff]; exact h
    · split <;> rw [inv_iff] <;> exact h
  · exact store (by simp [hd])
  · rw [inv_iff] at h ⊢; exact h

theorem deliverAll_inv {s : State} (h : s.inv = true) (ws : List (Word × Byte)) : (s.deliverAll ws).inv = true := by
  induction ws generalizing s with
  | nil => exact h
  | cons w ws ih => exact ih (deliver_inv h w.1 w.2)

/-- The invariant is about F, the buffers and the cartridge. -/
theorem inv_of_sameBus {s t : State} (h : s.inv = true) (hb : SameBus t s) (hf : t.f = s.f ∨ t.f.extractLsb' 0 4 = 0) :
    t.inv = true := by
  rw [inv_iff] at h ⊢
  refine ⟨?_, hb.ram ▸ h.2.1, hb.ram ▸ h.2.2.1, fun ct hct => h.2.2.2 ct (hb.cart ▸ hct)⟩
  rcases hf with hf | hf
  · rw [hf]; exact h.1
  · exact hf

/-! ## A complete cartridge -/

theorem ready_iff (s : State) : s.ready = true ↔ ∃ ct, s.cart = some ct ∧ ct.complete = true := by
  unfold State.ready
  cases s.cart <;> simp

theorem ready_windowOpen {s : State} (h : s.ready = true) (a : Word) : s.windowOpen a = true := by
  obtain ⟨ct, hc, -⟩ := (ready_iff s).mp h
  exact windowOpen_of_cart hc a

/-- With a complete cartridge every read answers a byte (R75). -/
theorem ready_busRead {s : State} (h : s.ready = true) (a : Word) : ∃ v, s.busRead a = .ok v := by
  obtain ⟨ct, hc, hk⟩ := (ready_iff s).mp h
  have hr := covers_decodeAddr a
  unfold Cart.complete at hk
  have image : ∀ i, i < ct.image.size → ∃ v, imageByte ct.image s.cyc i = .ok v := by
    intro i hi
    exact ⟨_, if_pos hi⟩
  unfold State.busRead State.fromCart
  cases hd : decodeAddr a <;> rw [hd] at hr <;> simp only [hc, Region.covers] at hr ⊢ <;> try exact ⟨_, rfl⟩
  · refine image _ ?_
    split at hk <;> simp at hk <;> omega
  · refine image _ ?_
    have hb := ct.romBank.isLt
    unfold Cart.switchOffset
    cases hs : ct.scheme <;> simp only [hs] at hk ⊢ <;> simp at hk <;> omega

theorem ready_of_sameCart {s t : State} (h : s.ready = true)
    (hc : ∀ ct, s.cart = some ct → ∃ ct', t.cart = some ct' ∧ ct'.image = ct.image ∧ ct'.scheme = ct.scheme) : t.ready = true := by
  obtain ⟨ct, h1, h2⟩ := (ready_iff s).mp h
  obtain ⟨ct', h3, h4, h5⟩ := hc ct h1
  refine (ready_iff t).mpr ⟨ct', h3, ?_⟩
  unfold Cart.complete at h2 ⊢
  rw [h4, h5]
  exact h2

/-- Writes in order keep the image and the scheme (R123). -/
theorem deliverAll_cart {s : State} {ct : Cart} (h : s.cart = some ct) (ws : List (Word × Byte)) :
    ∃ ct', (s.deliverAll ws).cart = some ct' ∧ ct'.image = ct.image ∧ ct'.scheme = ct.scheme := by
  induction ws generalizing s ct with
  | nil => exact ⟨ct, h, rfl, rfl⟩
  | cons w ws ih =>
    obtain ⟨ct1, h1, h2, h3⟩ := deliver_cart h w.1 w.2
    obtain ⟨ct2, h4, h5, h6⟩ := ih h1
    exact ⟨ct2, h4, h5.trans h2, h6.trans h3⟩

theorem deliver_noCart {s : State} (h : s.cart = none) (a : Word) (v : Byte) : (s.deliver a v).cart = none := by
  unfold State.deliver
  split <;> simp [h, State.setRam]

theorem deliverAll_noCart {s : State} (h : s.cart = none) (ws : List (Word × Byte)) : (s.deliverAll ws).cart = none := by
  induction ws generalizing s with
  | nil => exact h
  | cons w ws ih => exact ih (deliver_noCart h w.1 w.2)

end Sys2Proof.Machine
end

