-- ==== Sys2Proof/Laws/PerInstr.lean ====
section
/-! SUPPORT. One lemma per instruction: the encoder writes as many bytes as R167 reads off the first byte. -/

namespace Sys2Proof.Laws

/-- `i` is written in as many bytes as its first byte announces (R153, R167). -/
def ByteCount.Statement (i : Instr) : Prop :=
  match encode i with
  | [] => False
  | op :: rest => instrLength op = rest.length + 1

theorem ByteCount.nop : ByteCount.Statement .nop := rfl
theorem ByteCount.ldBcD16 (d16 : Word) : ByteCount.Statement (.ldBcD16 d16) := rfl
theorem ByteCount.ldIndBcA : ByteCount.Statement .ldIndBcA := rfl
theorem ByteCount.incBc : ByteCount.Statement .incBc := rfl
theorem ByteCount.incB : ByteCount.Statement .incB := rfl
theorem ByteCount.decB : ByteCount.Statement .decB := rfl
theorem ByteCount.ldBD8 (d8 : Byte) : ByteCount.Statement (.ldBD8 d8) := rfl
theorem ByteCount.rlca : ByteCount.Statement .rlca := rfl
theorem ByteCount.ldIndA16Sp (a16 : Word) : ByteCount.Statement (.ldIndA16Sp a16) := rfl
theorem ByteCount.addHlBc : ByteCount.Statement .addHlBc := rfl
theorem ByteCount.ldAIndBc : ByteCount.Statement .ldAIndBc := rfl
theorem ByteCount.decBc : ByteCount.Statement .decBc := rfl
theorem ByteCount.incC : ByteCount.Statement .incC := rfl
theorem ByteCount.decC : ByteCount.Statement .decC := rfl
theorem ByteCount.ldCD8 (d8 : Byte) : ByteCount.Statement (.ldCD8 d8) := rfl
theorem ByteCount.rrca : ByteCount.Statement .rrca := rfl
theorem ByteCount.stop : ByteCount.Statement .stop := rfl
theorem ByteCount.ldDeD16 (d16 : Word) : ByteCount.Statement (.ldDeD16 d16) := rfl
theorem ByteCount.ldIndDeA : ByteCount.Statement .ldIndDeA := rfl
theorem ByteCount.incDe : ByteCount.Statement .incDe := rfl
theorem ByteCount.incD : ByteCount.Statement .incD := rfl
theorem ByteCount.decD : ByteCount.Statement .decD := rfl
theorem ByteCount.ldDD8 (d8 : Byte) : ByteCount.Statement (.ldDD8 d8) := rfl
theorem ByteCount.rla : ByteCount.Statement .rla := rfl
theorem ByteCount.jrE8 (e8 : Byte) : ByteCount.Statement (.jrE8 e8) := rfl
theorem ByteCount.addHlDe : ByteCount.Statement .addHlDe := rfl
theorem ByteCount.ldAIndDe : ByteCount.Statement .ldAIndDe := rfl
theorem ByteCount.decDe : ByteCount.Statement .decDe := rfl
theorem ByteCount.incE : ByteCount.Statement .incE := rfl
theorem ByteCount.decE : ByteCount.Statement .decE := rfl
theorem ByteCount.ldED8 (d8 : Byte) : ByteCount.Statement (.ldED8 d8) := rfl
theorem ByteCount.rra : ByteCount.Statement .rra := rfl
theorem ByteCount.jrNzE8 (e8 : Byte) : ByteCount.Statement (.jrNzE8 e8) := rfl
theorem ByteCount.ldHlD16 (d16 : Word) : ByteCount.Statement (.ldHlD16 d16) := rfl
theorem ByteCount.ldIndHlIncA : ByteCount.Statement .ldIndHlIncA := rfl
theorem ByteCount.incHl : ByteCount.Statement .incHl := rfl
theorem ByteCount.incH : ByteCount.Statement .incH := rfl
theorem ByteCount.decH : ByteCount.Statement .decH := rfl
theorem ByteCount.ldHD8 (d8 : Byte) : ByteCount.Statement (.ldHD8 d8) := rfl
theorem ByteCount.daa : ByteCount.Statement .daa := rfl
theorem ByteCount.jrZE8 (e8 : Byte) : ByteCount.Statement (.jrZE8 e8) := rfl
theorem ByteCount.addHlHl : ByteCount.Statement .addHlHl := rfl
theorem ByteCount.ldAIndHlInc : ByteCount.Statement .ldAIndHlInc := rfl
theorem ByteCount.decHl : ByteCount.Statement .decHl := rfl
theorem ByteCount.incL : ByteCount.Statement .incL := rfl
theorem ByteCount.decL : ByteCount.Statement .decL := rfl
theorem ByteCount.ldLD8 (d8 : Byte) : ByteCount.Statement (.ldLD8 d8) := rfl
theorem ByteCount.cpl : ByteCount.Statement .cpl := rfl
theorem ByteCount.jrNcE8 (e8 : Byte) : ByteCount.Statement (.jrNcE8 e8) := rfl
theorem ByteCount.ldSpD16 (d16 : Word) : ByteCount.Statement (.ldSpD16 d16) := rfl
theorem ByteCount.ldIndHlDecA : ByteCount.Statement .ldIndHlDecA := rfl
theorem ByteCount.incSp : ByteCount.Statement .incSp := rfl
theorem ByteCount.incIndHl : ByteCount.Statement .incIndHl := rfl
theorem ByteCount.decIndHl : ByteCount.Statement .decIndHl := rfl
theorem ByteCount.ldIndHlD8 (d8 : Byte) : ByteCount.Statement (.ldIndHlD8 d8) := rfl
theorem ByteCount.scf : ByteCount.Statement .scf := rfl
theorem ByteCount.jrCE8 (e8 : Byte) : ByteCount.Statement (.jrCE8 e8) := rfl
theorem ByteCount.addHlSp : ByteCount.Statement .addHlSp := rfl
theorem ByteCount.ldAIndHlDec : ByteCount.Statement .ldAIndHlDec := rfl
theorem ByteCount.decSp : ByteCount.Statement .decSp := rfl
theorem ByteCount.incA : ByteCount.Statement .incA := rfl
theorem ByteCount.decA : ByteCount.Statement .decA := rfl
theorem ByteCount.ldAD8 (d8 : Byte) : ByteCount.Statement (.ldAD8 d8) := rfl
theorem ByteCount.ccf : ByteCount.Statement .ccf := rfl
theorem ByteCount.ldBB : ByteCount.Statement .ldBB := rfl
theorem ByteCount.ldBC : ByteCount.Statement .ldBC := rfl
theorem ByteCount.ldBD : ByteCount.Statement .ldBD := rfl
theorem ByteCount.ldBE : ByteCount.Statement .ldBE := rfl
theorem ByteCount.ldBH : ByteCount.Statement .ldBH := rfl
theorem ByteCount.ldBL : ByteCount.Statement .ldBL := rfl
theorem ByteCount.ldBIndHl : ByteCount.Statement .ldBIndHl := rfl
theorem ByteCount.ldBA : ByteCount.Statement .ldBA := rfl
theorem ByteCount.ldCB : ByteCount.Statement .ldCB := rfl
theorem ByteCount.ldCC : ByteCount.Statement .ldCC := rfl
theorem ByteCount.ldCD : ByteCount.Statement .ldCD := rfl
theorem ByteCount.ldCE : ByteCount.Statement .ldCE := rfl
theorem ByteCount.ldCH : ByteCount.Statement .ldCH := rfl
theorem ByteCount.ldCL : ByteCount.Statement .ldCL := rfl
theorem ByteCount.ldCIndHl : ByteCount.Statement .ldCIndHl := rfl
theorem ByteCount.ldCA : ByteCount.Statement .ldCA := rfl
theorem ByteCount.ldDB : ByteCount.Statement .ldDB := rfl
theorem ByteCount.ldDC : ByteCount.Statement .ldDC := rfl
theorem ByteCount.ldDD : ByteCount.Statement .ldDD := rfl
theorem ByteCount.ldDE : ByteCount.Statement .ldDE := rfl
theorem ByteCount.ldDH : ByteCount.Statement .ldDH := rfl
theorem ByteCount.ldDL : ByteCount.Statement .ldDL := rfl
theorem ByteCount.ldDIndHl : ByteCount.Statement .ldDIndHl := rfl
theorem ByteCount.ldDA : ByteCount.Statement .ldDA := rfl
theorem ByteCount.ldEB : ByteCount.Statement .ldEB := rfl
theorem ByteCount.ldEC : ByteCount.Statement .ldEC := rfl
theorem ByteCount.ldED : ByteCount.Statement .ldED := rfl
theorem ByteCount.ldEE : ByteCount.Statement .ldEE := rfl
theorem ByteCount.ldEH : ByteCount.Statement .ldEH := rfl
theorem ByteCount.ldEL : ByteCount.Statement .ldEL := rfl
theorem ByteCount.ldEIndHl : ByteCount.Statement .ldEIndHl := rfl
theorem ByteCount.ldEA : ByteCount.Statement .ldEA := rfl
theorem ByteCount.ldHB : ByteCount.Statement .ldHB := rfl
theorem ByteCount.ldHC : ByteCount.Statement .ldHC := rfl
theorem ByteCount.ldHD : ByteCount.Statement .ldHD := rfl
theorem ByteCount.ldHE : ByteCount.Statement .ldHE := rfl
theorem ByteCount.ldHH : ByteCount.Statement .ldHH := rfl
theorem ByteCount.ldHL : ByteCount.Statement .ldHL := rfl
theorem ByteCount.ldHIndHl : ByteCount.Statement .ldHIndHl := rfl
theorem ByteCount.ldHA : ByteCount.Statement .ldHA := rfl
theorem ByteCount.ldLB : ByteCount.Statement .ldLB := rfl
theorem ByteCount.ldLC : ByteCount.Statement .ldLC := rfl
theorem ByteCount.ldLD : ByteCount.Statement .ldLD := rfl
theorem ByteCount.ldLE : ByteCount.Statement .ldLE := rfl
theorem ByteCount.ldLH : ByteCount.Statement .ldLH := rfl
theorem ByteCount.ldLL : ByteCount.Statement .ldLL := rfl
theorem ByteCount.ldLIndHl : ByteCount.Statement .ldLIndHl := rfl
theorem ByteCount.ldLA : ByteCount.Statement .ldLA := rfl
theorem ByteCount.ldIndHlB : ByteCount.Statement .ldIndHlB := rfl
theorem ByteCount.ldIndHlC : ByteCount.Statement .ldIndHlC := rfl
theorem ByteCount.ldIndHlD : ByteCount.Statement .ldIndHlD := rfl
theorem ByteCount.ldIndHlE : ByteCount.Statement .ldIndHlE := rfl
theorem ByteCount.ldIndHlH : ByteCount.Statement .ldIndHlH := rfl
theorem ByteCount.ldIndHlL : ByteCount.Statement .ldIndHlL := rfl
theorem ByteCount.halt : ByteCount.Statement .halt := rfl
theorem ByteCount.ldIndHlA : ByteCount.Statement .ldIndHlA := rfl
theorem ByteCount.ldAB : ByteCount.Statement .ldAB := rfl
theorem ByteCount.ldAC : ByteCount.Statement .ldAC := rfl
theorem ByteCount.ldAD : ByteCount.Statement .ldAD := rfl
theorem ByteCount.ldAE : ByteCount.Statement .ldAE := rfl
theorem ByteCount.ldAH : ByteCount.Statement .ldAH := rfl
theorem ByteCount.ldAL : ByteCount.Statement .ldAL := rfl
theorem ByteCount.ldAIndHl : ByteCount.Statement .ldAIndHl := rfl
theorem ByteCount.ldAA : ByteCount.Statement .ldAA := rfl
theorem ByteCount.addAB : ByteCount.Statement .addAB := rfl
theorem ByteCount.addAC : ByteCount.Statement .addAC := rfl
theorem ByteCount.addAD : ByteCount.Statement .addAD := rfl
theorem ByteCount.addAE : ByteCount.Statement .addAE := rfl
theorem ByteCount.addAH : ByteCount.Statement .addAH := rfl
theorem ByteCount.addAL : ByteCount.Statement .addAL := rfl
theorem ByteCount.addAIndHl : ByteCount.Statement .addAIndHl := rfl
theorem ByteCount.addAA : ByteCount.Statement .addAA := rfl
theorem ByteCount.adcAB : ByteCount.Statement .adcAB := rfl
theorem ByteCount.adcAC : ByteCount.Statement .adcAC := rfl
theorem ByteCount.adcAD : ByteCount.Statement .adcAD := rfl
theorem ByteCount.adcAE : ByteCount.Statement .adcAE := rfl
theorem ByteCount.adcAH : ByteCount.Statement .adcAH := rfl
theorem ByteCount.adcAL : ByteCount.Statement .adcAL := rfl
theorem ByteCount.adcAIndHl : ByteCount.Statement .adcAIndHl := rfl
theorem ByteCount.adcAA : ByteCount.Statement .adcAA := rfl
theorem ByteCount.subB : ByteCount.Statement .subB := rfl
theorem ByteCount.subC : ByteCount.Statement .subC := rfl
theorem ByteCount.subD : ByteCount.Statement .subD := rfl
theorem ByteCount.subE : ByteCount.Statement .subE := rfl
theorem ByteCount.subH : ByteCount.Statement .subH := rfl
theorem ByteCount.subL : ByteCount.Statement .subL := rfl
theorem ByteCount.subIndHl : ByteCount.Statement .subIndHl := rfl
theorem ByteCount.subA : ByteCount.Statement .subA := rfl
theorem ByteCount.sbcAB : ByteCount.Statement .sbcAB := rfl
theorem ByteCount.sbcAC : ByteCount.Statement .sbcAC := rfl
theorem ByteCount.sbcAD : ByteCount.Statement .sbcAD := rfl
theorem ByteCount.sbcAE : ByteCount.Statement .sbcAE := rfl
theorem ByteCount.sbcAH : ByteCount.Statement .sbcAH := rfl
theorem ByteCount.sbcAL : ByteCount.Statement .sbcAL := rfl
theorem ByteCount.sbcAIndHl : ByteCount.Statement .sbcAIndHl := rfl
theorem ByteCount.sbcAA : ByteCount.Statement .sbcAA := rfl
theorem ByteCount.andB : ByteCount.Statement .andB := rfl
theorem ByteCount.andC : ByteCount.Statement .andC := rfl
theorem ByteCount.andD : ByteCount.Statement .andD := rfl
theorem ByteCount.andE : ByteCount.Statement .andE := rfl
theorem ByteCount.andH : ByteCount.Statement .andH := rfl
theorem ByteCount.andL : ByteCount.Statement .andL := rfl
theorem ByteCount.andIndHl : ByteCount.Statement .andIndHl := rfl
theorem ByteCount.andA : ByteCount.Statement .andA := rfl
theorem ByteCount.xorB : ByteCount.Statement .xorB := rfl
theorem ByteCount.xorC : ByteCount.Statement .xorC := rfl
theorem ByteCount.xorD : ByteCount.Statement .xorD := rfl
theorem ByteCount.xorE : ByteCount.Statement .xorE := rfl
theorem ByteCount.xorH : ByteCount.Statement .xorH := rfl
theorem ByteCount.xorL : ByteCount.Statement .xorL := rfl
theorem ByteCount.xorIndHl : ByteCount.Statement .xorIndHl := rfl
theorem ByteCount.xorA : ByteCount.Statement .xorA := rfl
theorem ByteCount.orB : ByteCount.Statement .orB := rfl
theorem ByteCount.orC : ByteCount.Statement .orC := rfl
theorem ByteCount.orD : ByteCount.Statement .orD := rfl
theorem ByteCount.orE : ByteCount.Statement .orE := rfl
theorem ByteCount.orH : ByteCount.Statement .orH := rfl
theorem ByteCount.orL : ByteCount.Statement .orL := rfl
theorem ByteCount.orIndHl : ByteCount.Statement .orIndHl := rfl
theorem ByteCount.orA : ByteCount.Statement .orA := rfl
theorem ByteCount.cpB : ByteCount.Statement .cpB := rfl
theorem ByteCount.cpC : ByteCount.Statement .cpC := rfl
theorem ByteCount.cpD : ByteCount.Statement .cpD := rfl
theorem ByteCount.cpE : ByteCount.Statement .cpE := rfl
theorem ByteCount.cpH : ByteCount.Statement .cpH := rfl
theorem ByteCount.cpL : ByteCount.Statement .cpL := rfl
theorem ByteCount.cpIndHl : ByteCount.Statement .cpIndHl := rfl
theorem ByteCount.cpA : ByteCount.Statement .cpA := rfl
theorem ByteCount.retNz : ByteCount.Statement .retNz := rfl
theorem ByteCount.popBc : ByteCount.Statement .popBc := rfl
theorem ByteCount.jpNzA16 (a16 : Word) : ByteCount.Statement (.jpNzA16 a16) := rfl
theorem ByteCount.jpA16 (a16 : Word) : ByteCount.Statement (.jpA16 a16) := rfl
theorem ByteCount.callNzA16 (a16 : Word) : ByteCount.Statement (.callNzA16 a16) := rfl
theorem ByteCount.pushBc : ByteCount.Statement .pushBc := rfl
theorem ByteCount.addAD8 (d8 : Byte) : ByteCount.Statement (.addAD8 d8) := rfl
theorem ByteCount.rst00 : ByteCount.Statement .rst00 := rfl
theorem ByteCount.retZ : ByteCount.Statement .retZ := rfl
theorem ByteCount.ret : ByteCount.Statement .ret := rfl
theorem ByteCount.jpZA16 (a16 : Word) : ByteCount.Statement (.jpZA16 a16) := rfl
theorem ByteCount.prefixCb (n : Byte) : ByteCount.Statement (.prefixCb n) := rfl
theorem ByteCount.callZA16 (a16 : Word) : ByteCount.Statement (.callZA16 a16) := rfl
theorem ByteCount.callA16 (a16 : Word) : ByteCount.Statement (.callA16 a16) := rfl
theorem ByteCount.adcAD8 (d8 : Byte) : ByteCount.Statement (.adcAD8 d8) := rfl
theorem ByteCount.rst08 : ByteCount.Statement .rst08 := rfl
theorem ByteCount.retNc : ByteCount.Statement .retNc := rfl
theorem ByteCount.popDe : ByteCount.Statement .popDe := rfl
theorem ByteCount.jpNcA16 (a16 : Word) : ByteCount.Statement (.jpNcA16 a16) := rfl
theorem ByteCount.undefD3 : ByteCount.Statement .undefD3 := rfl
theorem ByteCount.callNcA16 (a16 : Word) : ByteCount.Statement (.callNcA16 a16) := rfl
theorem ByteCount.pushDe : ByteCount.Statement .pushDe := rfl
theorem ByteCount.subD8 (d8 : Byte) : ByteCount.Statement (.subD8 d8) := rfl
theorem ByteCount.rst10 : ByteCount.Statement .rst10 := rfl
theorem ByteCount.retC : ByteCount.Statement .retC := rfl
theorem ByteCount.reti : ByteCount.Statement .reti := rfl
theorem ByteCount.jpCA16 (a16 : Word) : ByteCount.Statement (.jpCA16 a16) := rfl
theorem ByteCount.undefDB : ByteCount.Statement .undefDB := rfl
theorem ByteCount.callCA16 (a16 : Word) : ByteCount.Statement (.callCA16 a16) := rfl
theorem ByteCount.undefDD : ByteCount.Statement .undefDD := rfl
theorem ByteCount.sbcAD8 (d8 : Byte) : ByteCount.Statement (.sbcAD8 d8) := rfl
theorem ByteCount.rst18 : ByteCount.Statement .rst18 := rfl
theorem ByteCount.ldhIndA8A (a8 : Byte) : ByteCount.Statement (.ldhIndA8A a8) := rfl
theorem ByteCount.popHl : ByteCount.Statement .popHl := rfl
theorem ByteCount.ldIndCA : ByteCount.Statement .ldIndCA := rfl
theorem ByteCount.undefE3 : ByteCount.Statement .undefE3 := rfl
theorem ByteCount.undefE4 : ByteCount.Statement .undefE4 := rfl
theorem ByteCount.pushHl : ByteCount.Statement .pushHl := rfl
theorem ByteCount.andD8 (d8 : Byte) : ByteCount.Statement (.andD8 d8) := rfl
theorem ByteCount.rst20 : ByteCount.Statement .rst20 := rfl
theorem ByteCount.addSpE8 (e8 : Byte) : ByteCount.Statement (.addSpE8 e8) := rfl
theorem ByteCount.jpHl : ByteCount.Statement .jpHl := rfl
theorem ByteCount.ldIndA16A (a16 : Word) : ByteCount.Statement (.ldIndA16A a16) := rfl
theorem ByteCount.undefEB : ByteCount.Statement .undefEB := rfl
theorem ByteCount.undefEC : ByteCount.Statement .undefEC := rfl
theorem ByteCount.undefED : ByteCount.Statement .undefED := rfl
theorem ByteCount.xorD8 (d8 : Byte) : ByteCount.Statement (.xorD8 d8) := rfl
theorem ByteCount.rst28 : ByteCount.Statement .rst28 := rfl
theorem ByteCount.ldhAIndA8 (a8 : Byte) : ByteCount.Statement (.ldhAIndA8 a8) := rfl
theorem ByteCount.popAf : ByteCount.Statement .popAf := rfl
theorem ByteCount.ldAIndC : ByteCount.Statement .ldAIndC := rfl
theorem ByteCount.di : ByteCount.Statement .di := rfl
theorem ByteCount.undefF4 : ByteCount.Statement .undefF4 := rfl
theorem ByteCount.pushAf : ByteCount.Statement .pushAf := rfl
theorem ByteCount.orD8 (d8 : Byte) : ByteCount.Statement (.orD8 d8) := rfl
theorem ByteCount.rst30 : ByteCount.Statement .rst30 := rfl
theorem ByteCount.ldHlSpE8 (e8 : Byte) : ByteCount.Statement (.ldHlSpE8 e8) := rfl
theorem ByteCount.ldSpHl : ByteCount.Statement .ldSpHl := rfl
theorem ByteCount.ldAIndA16 (a16 : Word) : ByteCount.Statement (.ldAIndA16 a16) := rfl
theorem ByteCount.ei : ByteCount.Statement .ei := rfl
theorem ByteCount.undefFC : ByteCount.Statement .undefFC := rfl
theorem ByteCount.undefFD : ByteCount.Statement .undefFD := rfl
theorem ByteCount.cpD8 (d8 : Byte) : ByteCount.Statement (.cpD8 d8) := rfl
theorem ByteCount.rst38 : ByteCount.Statement .rst38 := rfl
theorem ByteCount.rlcB : ByteCount.Statement .rlcB := rfl
theorem ByteCount.rlcC : ByteCount.Statement .rlcC := rfl
theorem ByteCount.rlcD : ByteCount.Statement .rlcD := rfl
theorem ByteCount.rlcE : ByteCount.Statement .rlcE := rfl
theorem ByteCount.rlcH : ByteCount.Statement .rlcH := rfl
theorem ByteCount.rlcL : ByteCount.Statement .rlcL := rfl
theorem ByteCount.rlcIndHl : ByteCount.Statement .rlcIndHl := rfl
theorem ByteCount.rlcA : ByteCount.Statement .rlcA := rfl
theorem ByteCount.rrcB : ByteCount.Statement .rrcB := rfl
theorem ByteCount.rrcC : ByteCount.Statement .rrcC := rfl
theorem ByteCount.rrcD : ByteCount.Statement .rrcD := rfl
theorem ByteCount.rrcE : ByteCount.Statement .rrcE := rfl
theorem ByteCount.rrcH : ByteCount.Statement .rrcH := rfl
theorem ByteCount.rrcL : ByteCount.Statement .rrcL := rfl
theorem ByteCount.rrcIndHl : ByteCount.Statement .rrcIndHl := rfl
theorem ByteCount.rrcA : ByteCount.Statement .rrcA := rfl
theorem ByteCount.rlB : ByteCount.Statement .rlB := rfl
theorem ByteCount.rlC : ByteCount.Statement .rlC := rfl
theorem ByteCount.rlD : ByteCount.Statement .rlD := rfl
theorem ByteCount.rlE : ByteCount.Statement .rlE := rfl
theorem ByteCount.rlH : ByteCount.Statement .rlH := rfl
theorem ByteCount.rlL : ByteCount.Statement .rlL := rfl
theorem ByteCount.rlIndHl : ByteCount.Statement .rlIndHl := rfl
theorem ByteCount.rlA : ByteCount.Statement .rlA := rfl
theorem ByteCount.rrB : ByteCount.Statement .rrB := rfl
theorem ByteCount.rrC : ByteCount.Statement .rrC := rfl
theorem ByteCount.rrD : ByteCount.Statement .rrD := rfl
theorem ByteCount.rrE : ByteCount.Statement .rrE := rfl
theorem ByteCount.rrH : ByteCount.Statement .rrH := rfl
theorem ByteCount.rrL : ByteCount.Statement .rrL := rfl
theorem ByteCount.rrIndHl : ByteCount.Statement .rrIndHl := rfl
theorem ByteCount.rrA : ByteCount.Statement .rrA := rfl
theorem ByteCount.slaB : ByteCount.Statement .slaB := rfl
theorem ByteCount.slaC : ByteCount.Statement .slaC := rfl
theorem ByteCount.slaD : ByteCount.Statement .slaD := rfl
theorem ByteCount.slaE : ByteCount.Statement .slaE := rfl
theorem ByteCount.slaH : ByteCount.Statement .slaH := rfl
theorem ByteCount.slaL : ByteCount.Statement .slaL := rfl
theorem ByteCount.slaIndHl : ByteCount.Statement .slaIndHl := rfl
theorem ByteCount.slaA : ByteCount.Statement .slaA := rfl
theorem ByteCount.sraB : ByteCount.Statement .sraB := rfl
theorem ByteCount.sraC : ByteCount.Statement .sraC := rfl
theorem ByteCount.sraD : ByteCount.Statement .sraD := rfl
theorem ByteCount.sraE : ByteCount.Statement .sraE := rfl
theorem ByteCount.sraH : ByteCount.Statement .sraH := rfl
theorem ByteCount.sraL : ByteCount.Statement .sraL := rfl
theorem ByteCount.sraIndHl : ByteCount.Statement .sraIndHl := rfl
theorem ByteCount.sraA : ByteCount.Statement .sraA := rfl
theorem ByteCount.swapB : ByteCount.Statement .swapB := rfl
theorem ByteCount.swapC : ByteCount.Statement .swapC := rfl
theorem ByteCount.swapD : ByteCount.Statement .swapD := rfl
theorem ByteCount.swapE : ByteCount.Statement .swapE := rfl
theorem ByteCount.swapH : ByteCount.Statement .swapH := rfl
theorem ByteCount.swapL : ByteCount.Statement .swapL := rfl
theorem ByteCount.swapIndHl : ByteCount.Statement .swapIndHl := rfl
theorem ByteCount.swapA : ByteCount.Statement .swapA := rfl
theorem ByteCount.srlB : ByteCount.Statement .srlB := rfl
theorem ByteCount.srlC : ByteCount.Statement .srlC := rfl
theorem ByteCount.srlD : ByteCount.Statement .srlD := rfl
theorem ByteCount.srlE : ByteCount.Statement .srlE := rfl
theorem ByteCount.srlH : ByteCount.Statement .srlH := rfl
theorem ByteCount.srlL : ByteCount.Statement .srlL := rfl
theorem ByteCount.srlIndHl : ByteCount.Statement .srlIndHl := rfl
theorem ByteCount.srlA : ByteCount.Statement .srlA := rfl
theorem ByteCount.bit0B : ByteCount.Statement .bit0B := rfl
theorem ByteCount.bit0C : ByteCount.Statement .bit0C := rfl
theorem ByteCount.bit0D : ByteCount.Statement .bit0D := rfl
theorem ByteCount.bit0E : ByteCount.Statement .bit0E := rfl
theorem ByteCount.bit0H : ByteCount.Statement .bit0H := rfl
theorem ByteCount.bit0L : ByteCount.Statement .bit0L := rfl
theorem ByteCount.bit0IndHl : ByteCount.Statement .bit0IndHl := rfl
theorem ByteCount.bit0A : ByteCount.Statement .bit0A := rfl
theorem ByteCount.bit1B : ByteCount.Statement .bit1B := rfl
theorem ByteCount.bit1C : ByteCount.Statement .bit1C := rfl
theorem ByteCount.bit1D : ByteCount.Statement .bit1D := rfl
theorem ByteCount.bit1E : ByteCount.Statement .bit1E := rfl
theorem ByteCount.bit1H : ByteCount.Statement .bit1H := rfl
theorem ByteCount.bit1L : ByteCount.Statement .bit1L := rfl
theorem ByteCount.bit1IndHl : ByteCount.Statement .bit1IndHl := rfl
theorem ByteCount.bit1A : ByteCount.Statement .bit1A := rfl
theorem ByteCount.bit2B : ByteCount.Statement .bit2B := rfl
theorem ByteCount.bit2C : ByteCount.Statement .bit2C := rfl
theorem ByteCount.bit2D : ByteCount.Statement .bit2D := rfl
theorem ByteCount.bit2E : ByteCount.Statement .bit2E := rfl
theorem ByteCount.bit2H : ByteCount.Statement .bit2H := rfl
theorem ByteCount.bit2L : ByteCount.Statement .bit2L := rfl
theorem ByteCount.bit2IndHl : ByteCount.Statement .bit2IndHl := rfl
theorem ByteCount.bit2A : ByteCount.Statement .bit2A := rfl
theorem ByteCount.bit3B : ByteCount.Statement .bit3B := rfl
theorem ByteCount.bit3C : ByteCount.Statement .bit3C := rfl
theorem ByteCount.bit3D : ByteCount.Statement .bit3D := rfl
theorem ByteCount.bit3E : ByteCount.Statement .bit3E := rfl
theorem ByteCount.bit3H : ByteCount.Statement .bit3H := rfl
theorem ByteCount.bit3L : ByteCount.Statement .bit3L := rfl
theorem ByteCount.bit3IndHl : ByteCount.Statement .bit3IndHl := rfl
theorem ByteCount.bit3A : ByteCount.Statement .bit3A := rfl
theorem ByteCount.bit4B : ByteCount.Statement .bit4B := rfl
theorem ByteCount.bit4C : ByteCount.Statement .bit4C := rfl
theorem ByteCount.bit4D : ByteCount.Statement .bit4D := rfl
theorem ByteCount.bit4E : ByteCount.Statement .bit4E := rfl
theorem ByteCount.bit4H : ByteCount.Statement .bit4H := rfl
theorem ByteCount.bit4L : ByteCount.Statement .bit4L := rfl
theorem ByteCount.bit4IndHl : ByteCount.Statement .bit4IndHl := rfl
theorem ByteCount.bit4A : ByteCount.Statement .bit4A := rfl
theorem ByteCount.bit5B : ByteCount.Statement .bit5B := rfl
theorem ByteCount.bit5C : ByteCount.Statement .bit5C := rfl
theorem ByteCount.bit5D : ByteCount.Statement .bit5D := rfl
theorem ByteCount.bit5E : ByteCount.Statement .bit5E := rfl
theorem ByteCount.bit5H : ByteCount.Statement .bit5H := rfl
theorem ByteCount.bit5L : ByteCount.Statement .bit5L := rfl
theorem ByteCount.bit5IndHl : ByteCount.Statement .bit5IndHl := rfl
theorem ByteCount.bit5A : ByteCount.Statement .bit5A := rfl
theorem ByteCount.bit6B : ByteCount.Statement .bit6B := rfl
theorem ByteCount.bit6C : ByteCount.Statement .bit6C := rfl
theorem ByteCount.bit6D : ByteCount.Statement .bit6D := rfl
theorem ByteCount.bit6E : ByteCount.Statement .bit6E := rfl
theorem ByteCount.bit6H : ByteCount.Statement .bit6H := rfl
theorem ByteCount.bit6L : ByteCount.Statement .bit6L := rfl
theorem ByteCount.bit6IndHl : ByteCount.Statement .bit6IndHl := rfl
theorem ByteCount.bit6A : ByteCount.Statement .bit6A := rfl
theorem ByteCount.bit7B : ByteCount.Statement .bit7B := rfl
theorem ByteCount.bit7C : ByteCount.Statement .bit7C := rfl
theorem ByteCount.bit7D : ByteCount.Statement .bit7D := rfl
theorem ByteCount.bit7E : ByteCount.Statement .bit7E := rfl
theorem ByteCount.bit7H : ByteCount.Statement .bit7H := rfl
theorem ByteCount.bit7L : ByteCount.Statement .bit7L := rfl
theorem ByteCount.bit7IndHl : ByteCount.Statement .bit7IndHl := rfl
theorem ByteCount.bit7A : ByteCount.Statement .bit7A := rfl
theorem ByteCount.res0B : ByteCount.Statement .res0B := rfl
theorem ByteCount.res0C : ByteCount.Statement .res0C := rfl
theorem ByteCount.res0D : ByteCount.Statement .res0D := rfl
theorem ByteCount.res0E : ByteCount.Statement .res0E := rfl
theorem ByteCount.res0H : ByteCount.Statement .res0H := rfl
theorem ByteCount.res0L : ByteCount.Statement .res0L := rfl
theorem ByteCount.res0IndHl : ByteCount.Statement .res0IndHl := rfl
theorem ByteCount.res0A : ByteCount.Statement .res0A := rfl
theorem ByteCount.res1B : ByteCount.Statement .res1B := rfl
theorem ByteCount.res1C : ByteCount.Statement .res1C := rfl
theorem ByteCount.res1D : ByteCount.Statement .res1D := rfl
theorem ByteCount.res1E : ByteCount.Statement .res1E := rfl
theorem ByteCount.res1H : ByteCount.Statement .res1H := rfl
theorem ByteCount.res1L : ByteCount.Statement .res1L := rfl
theorem ByteCount.res1IndHl : ByteCount.Statement .res1IndHl := rfl
theorem ByteCount.res1A : ByteCount.Statement .res1A := rfl
theorem ByteCount.res2B : ByteCount.Statement .res2B := rfl
theorem ByteCount.res2C : ByteCount.Statement .res2C := rfl
theorem ByteCount.res2D : ByteCount.Statement .res2D := rfl
theorem ByteCount.res2E : ByteCount.Statement .res2E := rfl
theorem ByteCount.res2H : ByteCount.Statement .res2H := rfl
theorem ByteCount.res2L : ByteCount.Statement .res2L := rfl
theorem ByteCount.res2IndHl : ByteCount.Statement .res2IndHl := rfl
theorem ByteCount.res2A : ByteCount.Statement .res2A := rfl
theorem ByteCount.res3B : ByteCount.Statement .res3B := rfl
theorem ByteCount.res3C : ByteCount.Statement .res3C := rfl
theorem ByteCount.res3D : ByteCount.Statement .res3D := rfl
theorem ByteCount.res3E : ByteCount.Statement .res3E := rfl
theorem ByteCount.res3H : ByteCount.Statement .res3H := rfl
theorem ByteCount.res3L : ByteCount.Statement .res3L := rfl
theorem ByteCount.res3IndHl : ByteCount.Statement .res3IndHl := rfl
theorem ByteCount.res3A : ByteCount.Statement .res3A := rfl
theorem ByteCount.res4B : ByteCount.Statement .res4B := rfl
theorem ByteCount.res4C : ByteCount.Statement .res4C := rfl
theorem ByteCount.res4D : ByteCount.Statement .res4D := rfl
theorem ByteCount.res4E : ByteCount.Statement .res4E := rfl
theorem ByteCount.res4H : ByteCount.Statement .res4H := rfl
theorem ByteCount.res4L : ByteCount.Statement .res4L := rfl
theorem ByteCount.res4IndHl : ByteCount.Statement .res4IndHl := rfl
theorem ByteCount.res4A : ByteCount.Statement .res4A := rfl
theorem ByteCount.res5B : ByteCount.Statement .res5B := rfl
theorem ByteCount.res5C : ByteCount.Statement .res5C := rfl
theorem ByteCount.res5D : ByteCount.Statement .res5D := rfl
theorem ByteCount.res5E : ByteCount.Statement .res5E := rfl
theorem ByteCount.res5H : ByteCount.Statement .res5H := rfl
theorem ByteCount.res5L : ByteCount.Statement .res5L := rfl
theorem ByteCount.res5IndHl : ByteCount.Statement .res5IndHl := rfl
theorem ByteCount.res5A : ByteCount.Statement .res5A := rfl
theorem ByteCount.res6B : ByteCount.Statement .res6B := rfl
theorem ByteCount.res6C : ByteCount.Statement .res6C := rfl
theorem ByteCount.res6D : ByteCount.Statement .res6D := rfl
theorem ByteCount.res6E : ByteCount.Statement .res6E := rfl
theorem ByteCount.res6H : ByteCount.Statement .res6H := rfl
theorem ByteCount.res6L : ByteCount.Statement .res6L := rfl
theorem ByteCount.res6IndHl : ByteCount.Statement .res6IndHl := rfl
theorem ByteCount.res6A : ByteCount.Statement .res6A := rfl
theorem ByteCount.res7B : ByteCount.Statement .res7B := rfl
theorem ByteCount.res7C : ByteCount.Statement .res7C := rfl
theorem ByteCount.res7D : ByteCount.Statement .res7D := rfl
theorem ByteCount.res7E : ByteCount.Statement .res7E := rfl
theorem ByteCount.res7H : ByteCount.Statement .res7H := rfl
theorem ByteCount.res7L : ByteCount.Statement .res7L := rfl
theorem ByteCount.res7IndHl : ByteCount.Statement .res7IndHl := rfl
theorem ByteCount.res7A : ByteCount.Statement .res7A := rfl
theorem ByteCount.set0B : ByteCount.Statement .set0B := rfl
theorem ByteCount.set0C : ByteCount.Statement .set0C := rfl
theorem ByteCount.set0D : ByteCount.Statement .set0D := rfl
theorem ByteCount.set0E : ByteCount.Statement .set0E := rfl
theorem ByteCount.set0H : ByteCount.Statement .set0H := rfl
theorem ByteCount.set0L : ByteCount.Statement .set0L := rfl
theorem ByteCount.set0IndHl : ByteCount.Statement .set0IndHl := rfl
theorem ByteCount.set0A : ByteCount.Statement .set0A := rfl
theorem ByteCount.set1B : ByteCount.Statement .set1B := rfl
theorem ByteCount.set1C : ByteCount.Statement .set1C := rfl
theorem ByteCount.set1D : ByteCount.Statement .set1D := rfl
theorem ByteCount.set1E : ByteCount.Statement .set1E := rfl
theorem ByteCount.set1H : ByteCount.Statement .set1H := rfl
theorem ByteCount.set1L : ByteCount.Statement .set1L := rfl
theorem ByteCount.set1IndHl : ByteCount.Statement .set1IndHl := rfl
theorem ByteCount.set1A : ByteCount.Statement .set1A := rfl
theorem ByteCount.set2B : ByteCount.Statement .set2B := rfl
theorem ByteCount.set2C : ByteCount.Statement .set2C := rfl
theorem ByteCount.set2D : ByteCount.Statement .set2D := rfl
theorem ByteCount.set2E : ByteCount.Statement .set2E := rfl
theorem ByteCount.set2H : ByteCount.Statement .set2H := rfl
theorem ByteCount.set2L : ByteCount.Statement .set2L := rfl
theorem ByteCount.set2IndHl : ByteCount.Statement .set2IndHl := rfl
theorem ByteCount.set2A : ByteCount.Statement .set2A := rfl
theorem ByteCount.set3B : ByteCount.Statement .set3B := rfl
theorem ByteCount.set3C : ByteCount.Statement .set3C := rfl
theorem ByteCount.set3D : ByteCount.Statement .set3D := rfl
theorem ByteCount.set3E : ByteCount.Statement .set3E := rfl
theorem ByteCount.set3H : ByteCount.Statement .set3H := rfl
theorem ByteCount.set3L : ByteCount.Statement .set3L := rfl
theorem ByteCount.set3IndHl : ByteCount.Statement .set3IndHl := rfl
theorem ByteCount.set3A : ByteCount.Statement .set3A := rfl
theorem ByteCount.set4B : ByteCount.Statement .set4B := rfl
theorem ByteCount.set4C : ByteCount.Statement .set4C := rfl
theorem ByteCount.set4D : ByteCount.Statement .set4D := rfl
theorem ByteCount.set4E : ByteCount.Statement .set4E := rfl
theorem ByteCount.set4H : ByteCount.Statement .set4H := rfl
theorem ByteCount.set4L : ByteCount.Statement .set4L := rfl
theorem ByteCount.set4IndHl : ByteCount.Statement .set4IndHl := rfl
theorem ByteCount.set4A : ByteCount.Statement .set4A := rfl
theorem ByteCount.set5B : ByteCount.Statement .set5B := rfl
theorem ByteCount.set5C : ByteCount.Statement .set5C := rfl
theorem ByteCount.set5D : ByteCount.Statement .set5D := rfl
theorem ByteCount.set5E : ByteCount.Statement .set5E := rfl
theorem ByteCount.set5H : ByteCount.Statement .set5H := rfl
theorem ByteCount.set5L : ByteCount.Statement .set5L := rfl
theorem ByteCount.set5IndHl : ByteCount.Statement .set5IndHl := rfl
theorem ByteCount.set5A : ByteCount.Statement .set5A := rfl
theorem ByteCount.set6B : ByteCount.Statement .set6B := rfl
theorem ByteCount.set6C : ByteCount.Statement .set6C := rfl
theorem ByteCount.set6D : ByteCount.Statement .set6D := rfl
theorem ByteCount.set6E : ByteCount.Statement .set6E := rfl
theorem ByteCount.set6H : ByteCount.Statement .set6H := rfl
theorem ByteCount.set6L : ByteCount.Statement .set6L := rfl
theorem ByteCount.set6IndHl : ByteCount.Statement .set6IndHl := rfl
theorem ByteCount.set6A : ByteCount.Statement .set6A := rfl
theorem ByteCount.set7B : ByteCount.Statement .set7B := rfl
theorem ByteCount.set7C : ByteCount.Statement .set7C := rfl
theorem ByteCount.set7D : ByteCount.Statement .set7D := rfl
theorem ByteCount.set7E : ByteCount.Statement .set7E := rfl
theorem ByteCount.set7H : ByteCount.Statement .set7H := rfl
theorem ByteCount.set7L : ByteCount.Statement .set7L := rfl
theorem ByteCount.set7IndHl : ByteCount.Statement .set7IndHl := rfl
theorem ByteCount.set7A : ByteCount.Statement .set7A := rfl

end Sys2Proof.Laws
end

