-- ==== Sys2Proof/Laws/Step.lean ====
section
/-! SUPPORT. The laws of fetching and of `step`: what they can answer, and which faults a bus access can answer. -/

namespace Sys2Proof.Machine

/-- A step that answers a next state is `exec` of the fetched instruction. -/
theorem step_next {s t : State} : step s = .next t ↔ ∃ i, s.fetchInstr = .ok i ∧ exec i s = .next t := by
  unfold step
  cases s.fetchInstr <;> simp

/-- A step that faults does so in the fetch or in `exec`. -/
theorem step_fault {s : State} {r : Fault} :
    step s = .fault r ↔ s.fetchInstr = .error r ∨ ∃ i, s.fetchInstr = .ok i ∧ exec i s = .fault r := by
  unfold step
  cases s.fetchInstr <;> simp

theorem fetchInstr_ok {s : State} {i : Instr} :
    s.fetchInstr = .ok i ↔
      ∃ op bs, s.busRead s.pc = .ok op ∧ s.bytesAt (s.pc + 1) (instrLength op - 1) = .ok bs ∧
        i = decodeInstr op (bs.getD 0 0) (bs.getD 1 0) := by
  unfold State.fetchInstr
  cases s.busRead s.pc with
  | error r => simp
  | ok op =>
    simp only [Except.ok.injEq, exists_and_left, exists_eq_left']
    cases s.bytesAt (s.pc + 1) (instrLength op - 1) <;> simp [eq_comm]

theorem fetchInstr_error {s : State} {r : Fault} :
    s.fetchInstr = .error r ↔
      s.busRead s.pc = .error r ∨
        ∃ op, s.busRead s.pc = .ok op ∧ s.bytesAt (s.pc + 1) (instrLength op - 1) = .error r := by
  unfold State.fetchInstr
  cases s.busRead s.pc with
  | error r => simp
  | ok op =>
    simp only [Except.ok.injEq, reduceCtorEq, false_or, exists_eq_left']
    cases s.bytesAt (s.pc + 1) (instrLength op - 1) <;> simp

/-- Bytes in a row fault only where one of them does. -/
theorem bytesAt_error {s : State} {n : Nat} {a : Word} {r : Fault} (h : s.bytesAt a n = .error r) :
    ∃ b, s.busRead b = .error r := by
  induction n generalizing a with
  | zero => cases h
  | succ n ih =>
    simp only [State.bytesAt] at h
    split at h
    · cases h; exact ⟨a, ‹_›⟩
    · split at h
      · cases h; exact ih ‹_›
      · cases h

/-- The two faults of a bus read (R114, R115). -/
theorem busRead_error {s : State} {a : Word} {r : Fault} (h : s.busRead a = .error r) :
    (r = .noCartridge ∧ s.cart = none) ∨
      ∃ ct i, s.cart = some ct ∧ r = .cartReadOutOfImage i ∧ ct.image.size ≤ i := by
  have image : ∀ ct i, s.cart = some ct → imageByte ct.image s.cyc i = .error r →
      (r = .noCartridge ∧ s.cart = none) ∨ ∃ ct i, s.cart = some ct ∧ r = .cartReadOutOfImage i ∧ ct.image.size ≤ i := by
    intro ct i hc h
    unfold imageByte imageByteUnder at h
    split at h
    · cases h
    · simp only [Config.cartOob] at h
      cases h
      exact Or.inr ⟨ct, i, hc, rfl, by omega⟩
  unfold State.busRead at h
  cases hd : decodeAddr a <;> rw [hd] at h <;> simp only [State.fromCart] at h <;> try (cases h; done)
  all_goals
    split at h
    · cases h; exact Or.inl ⟨rfl, ‹_›⟩
    · first | exact image _ _ ‹_› h | cases h

/-- A closed window is a cartridge window with no cartridge (R115). -/
theorem cart_of_closed {s : State} {a : Word} (h : s.windowOpen a = false) : s.cart = none := by
  unfold State.windowOpen at h
  cases hc : s.cart with
  | none => rfl
  | some ct => simp [hc] at h

/-- A state's byte at a place. -/
def State.atPlace (s : State) (p : Place) : Byte :=
  match p with
  | .ram k => s.ram.get k
  | .eram k => (s.cart.map fun ct => ct.eram.get k).getD 0
  | .ie => s.ie

/-- A read of a storage address answers the byte at its place. -/
theorem busRead_of_place {s : State} {a : Word} {p : Place} (h : s.storagePlace a = some p) : s.busRead a = .ok (s.atPlace p) := by
  unfold State.storagePlace at h
  unfold State.busRead
  cases hd : decodeAddr a <;> rw [hd] at h <;> simp only [] at h ⊢ <;> try (cases h; done)
  all_goals try (cases h; rfl)
  split at h
  · cases h
  · rename_i ct hc
    split at h
    · cases h
    · rename_i hs
      cases h
      simp only [State.fromCart, hc, Cart.readRam, hs, State.atPlace, Option.map_some, Option.getD_some]

/-- F is no part of the bus. -/
theorem deliverAll_f (ws : List (Word × Byte)) (s : State) : (s.deliverAll ws).f = s.f := by
  induction ws generalizing s with
  | nil => rfl
  | cons w ws ih => rw [deliverAll_cons, ih]; simp

end Sys2Proof.Machine
end

