-- ==== Sys2Proof/Tests/Slice0.lean ====
section
/-! SUPPORT. The model's own tests: ill-formed terms refused, words decoded, the spec's test vectors
(spec/95_test_vectors.md, each one step or a few bus accesses, their expected results taken from there), and for every
statement with hypotheses a state and operands that meet them (`test_meets_<statement>`). -/

open Sys2Proof Sys2Proof.Machine

namespace Sys2Proof.Tests

/-! ## Helpers -/

/-- The state S0 of spec/95_test_vectors.md: after reset, a 32 KiB no-banking image of 0x00 with `bytes` at 0x0100. -/
def s0 (bytes : List Byte) : State :=
  { State.reset with cart := some (Cart.ofImage { size := 0x8000, cells := Memory.setList [] 0x0100 bytes } []) }

/-- The answer is the next state `t`. -/
def Result.isNext (r : Result) (t : State) : Bool :=
  match r with
  | .next u => decide (u = t)
  | _ => false

/-- The answer is the fault `f`. -/
def Result.isFault (r : Result) (f : Fault) : Bool :=
  match r with
  | .fault g => decide (g = f)
  | _ => false

/-- A vector of section 3: one step from S0 with the `start` changes gives S0 with them and the `result` changes. -/
abbrev vec (bytes : List Byte) (start result : State → State) : Prop :=
  Result.isNext (step (start (s0 bytes))) (result (start (s0 bytes))) = true

/-- A host write; a fault leaves the state as it was. -/
def write (s : State) (a : Word) (v : Byte) : State :=
  match perform (.busWrite a v) s with
  | .next t _ => t
  | _ => s

/-- What a host read answers. -/
def read (s : State) (a : Word) : Option Byte :=
  match perform (.busRead a) s with
  | .next _ b => b
  | _ => none

/-- The fault an interaction answers. -/
def faultOf (x : Answer) : Option Fault :=
  match x with
  | .fault f => some f
  | _ => none

/-- S0 with another image. -/
def withImage (size : Nat) (cells : Memory) : State :=
  { State.reset with cart := some (Cart.ofImage { size := size, cells := cells } []) }

/-- The "plain" image of section 4. -/
def plain : State := withImage 0x8000 [(0x4000, 0x22)]

/-- The "type-1" image of sections 1 and 4: 128 KiB, byte 0x147 = 0x01. -/
def typeOne : State := withImage 0x20000 [(0x0000, 0x31), (0x0147, 0x01), (0x4000, 0x11), (0x14000, 0x55), (0x1FFFF, 0x77)]

/-- The controller's registers hold these: ROM bank, RAM bank, mode 1, RAM enable. -/
def banks (s : State) (rom : BitVec 7) (ram : BitVec 2) (mode enable : Bool) : Bool :=
  s.cart.any fun ct => ct.romBank == rom && ct.ramBank == ram && (ct.mode == .largeRam) == mode && ct.ramEnable == enable

/-! ## Well-formedness -/

/-- The one check: the bare prefix slot is no canonical instruction (R163); the words 0xCB, 0x00 are RLC B. -/
theorem test_prefix_slot_refused : ¬ WellFormed (.prefixCb 0x00) ∧ WellFormed .rlcB ∧ decode [0xCB, 0x00] = .ok (.rlcB, []) :=
  ⟨by decide, by decide, rfl⟩

/-! ## Decoding: words written out from the encodings of spec/30_encoding.md -/

/-- Loads: 01 ddd sss, 01 ddd 110, 01 110 sss, 00 ddd 110, 00 pp 0001, 11 qq 0001; the other byte is the low one first. -/
theorem test_decode_loads :
    decode [0b01000001] = .ok (.ldBC, []) ∧ decode [0b01111110] = .ok (.ldAIndHl, []) ∧ decode [0b01110000] = .ok (.ldIndHlB, []) ∧
      decode [0b00111110, 0x42] = .ok (.ldAD8 0x42, []) ∧ decode [0b00010001, 0x34, 0x12] = .ok (.ldDeD16 0x1234, []) ∧
      decode [0b11110001] = .ok (.popAf, []) ∧ decode [0xE0, 0x01] = .ok (.ldhIndA8A 0x01, []) ∧
      decode [0xEA, 0x00, 0x20, 0x99] = .ok (.ldIndA16A 0x2000, [0x99]) :=
  ⟨rfl, rfl, rfl, rfl, rfl, rfl, rfl, rfl⟩

/-- 8-bit ALU: 10 ooo rrr, 11 ooo 110, 00 rrr 100, 00 rrr 101. -/
theorem test_decode_alu8 :
    decode [0b10000000] = .ok (.addAB, []) ∧ decode [0b10011110] = .ok (.sbcAIndHl, []) ∧ decode [0b10111111] = .ok (.cpA, []) ∧
      decode [0b11101110, 0xFF] = .ok (.xorD8 0xFF, []) ∧ decode [0b00000100] = .ok (.incB, []) ∧
      decode [0b00110101] = .ok (.decIndHl, []) :=
  ⟨rfl, rfl, rfl, rfl, rfl, rfl⟩

/-- 16-bit arithmetic: 00 pp 1001, 00 pp 0011, 00 pp 1011, 0xE8, 0xF8. -/
theorem test_decode_alu16 :
    decode [0b00001001] = .ok (.addHlBc, []) ∧ decode [0b00110011] = .ok (.incSp, []) ∧ decode [0b00011011] = .ok (.decDe, []) ∧
      decode [0xE8, 0xFF] = .ok (.addSpE8 0xFF, []) ∧ decode [0xF8, 0x80] = .ok (.ldHlSpE8 0x80, []) :=
  ⟨rfl, rfl, rfl, rfl, rfl⟩

/-- Accumulator forms: 000 rr 111, 0x27, 0x2F, 0x37, 0x3F. -/
theorem test_decode_accum :
    decode [0b00000111] = .ok (.rlca, []) ∧ decode [0b00011111] = .ok (.rra, []) ∧ decode [0x27] = .ok (.daa, []) ∧
      decode [0x2F] = .ok (.cpl, []) ∧ decode [0x37] = .ok (.scf, []) ∧ decode [0x3F] = .ok (.ccf, []) :=
  ⟨rfl, rfl, rfl, rfl, rfl, rfl⟩

/-- Control: 110 cc 010, 001 cc 000, 110 cc 100, 110 cc 000, 11 yyy 111. -/
theorem test_decode_control :
    decode [0b11000010, 0x50, 0x01] = .ok (.jpNzA16 0x0150, []) ∧ decode [0b00111000, 0x01] = .ok (.jrCE8 0x01, []) ∧
      decode [0b11001100, 0x00, 0x20] = .ok (.callZA16 0x2000, []) ∧ decode [0b11010000] = .ok (.retNc, []) ∧
      decode [0b11111111] = .ok (.rst38, []) ∧ decode [0xE9] = .ok (.jpHl, []) ∧ decode [0xD9] = .ok (.reti, []) :=
  ⟨rfl, rfl, rfl, rfl, rfl, rfl, rfl⟩

/-- System: STOP is one byte (R372); 0x76 is HALT, not LD (HL),(HL); the first and last undefined slots. -/
theorem test_decode_system :
    decode [0x10, 0x00] = .ok (.stop, [0x00]) ∧ decode [0b01110110] = .ok (.halt, []) ∧ decode [0xF3] = .ok (.di, []) ∧
      decode [0xFB] = .ok (.ei, []) ∧ decode [0xD3] = .ok (.undefD3, []) ∧ decode [0xFD] = .ok (.undefFD, []) :=
  ⟨rfl, rfl, rfl, rfl, rfl, rfl⟩

/-- Extended: 0xCB, 00 ooo rrr; 0xCB, xx bbb rrr. -/
theorem test_decode_extended :
    decode [0xCB, 0b00000000] = .ok (.rlcB, []) ∧ decode [0xCB, 0b00011110] = .ok (.rrIndHl, []) ∧
      decode [0xCB, 0b00110111] = .ok (.swapA, []) ∧ decode [0xCB, 0b01111100] = .ok (.bit7H, []) ∧
      decode [0xCB, 0b10000110] = .ok (.res0IndHl, []) ∧ decode [0xCB, 0b11111111] = .ok (.set7A, []) :=
  ⟨rfl, rfl, rfl, rfl, rfl, rfl⟩

/-- An instruction cut short is refused by name, and so is the empty sequence. -/
theorem test_decode_truncated :
    (decode []).toOption = none ∧ (decode [0xC3, 0x00]).toOption = none ∧ (decode [0xCB]).toOption = none := ⟨rfl, rfl, rfl⟩

/-- Table words: LD BC,d16 with its operand in bits 23..8, SET 7,A with its opcode in bits 15..8. -/
theorem test_table_words :
    decodeTableWord 8 0x01 = some (.ldBcD16 0x0000) ∧ decodeTableWord 24 0x123401 = some (.ldBcD16 0x1234) ∧
      decodeTableWord 16 0xFFCB = some .set7A := by decide

/-- The word placed where the next fetch reads it is what the very next step runs. -/
theorem test_placed_word_runs :
    Result.isNext (step (State.reset.withFetchWord 16 0x3D06)) { State.reset.withFetchWord 16 0x3D06 with b := 0x3D, pc := 0x0102, cyc := 2 } = true ∧
      Result.isNext (step (State.reset.withFetchWord 8 0x00)) { State.reset.withFetchWord 8 0x00 with pc := 0x0101, cyc := 1 } = true := by
  decide

/-! ## The vectors of section 3 -/

/-- 40-1 to 40-8. -/
theorem test_vectors_40_1_to_8 :
    vec [0x41] id (fun s => { s with b := 0x13, pc := 0x0101, cyc := 1 }) ∧
    vec [0x7F] (fun s => { s with a := 0x5C }) (fun s => { s with pc := 0x0101, cyc := 1 }) ∧
    vec [0x7E] (fun s => { s with h := 0xC0, l := 0x00, ram := [(0xC000, 0x5A)] }) (fun s => { s with a := 0x5A, pc := 0x0101, cyc := 2 }) ∧
    vec [0x66] (fun s => { s with h := 0xC1, l := 0x23, ram := [(0xC123, 0x9F)] }) (fun s => { s with h := 0x9F, pc := 0x0101, cyc := 2 }) ∧
    vec [0x75] (fun s => { s with h := 0xC0, l := 0xFF }) (fun s => { s with pc := 0x0101, cyc := 2, ram := [(0xC0FF, 0xFF)] }) ∧
    vec [0x1E, 0x7F] id (fun s => { s with e := 0x7F, pc := 0x0102, cyc := 2 }) ∧
    vec [0x36, 0xAB] (fun s => { s with h := 0x80, l := 0x00 }) (fun s => { s with pc := 0x0102, cyc := 3, ram := [(0x8000, 0xAB)] }) ∧
    vec [0x0A] (fun s => { s with b := 0xE0, c := 0x05, ram := [(0xC005, 0x33)] }) (fun s => { s with a := 0x33, pc := 0x0101, cyc := 2 }) := by decide

/-- 40-9 to 40-16. -/
theorem test_vectors_40_9_to_16 :
    vec [0x1A] (fun s => { s with d := 0xFF, e := 0x44 }) (fun s => { s with a := 0x00, pc := 0x0101, cyc := 2 }) ∧
    vec [0x02] (fun s => { s with a := 0x77, b := 0xFE, c := 0x9F }) (fun s => { s with pc := 0x0101, cyc := 2, ram := [(0xFE9F, 0x77)] }) ∧
    vec [0x12] (fun s => { s with a := 0x77, d := 0xFE, e := 0xA0 }) (fun s => { s with pc := 0x0101, cyc := 2 }) ∧
    vec [0xFA, 0x80, 0xFF] (fun s => { s with ram := [(0xFF80, 0x42)] }) (fun s => { s with a := 0x42, pc := 0x0103, cyc := 4 }) ∧
    vec [0xEA, 0xFF, 0xFF] (fun s => { s with a := 0x1F }) (fun s => { s with pc := 0x0103, cyc := 4, ie := 0x1F }) ∧
    vec [0xF0, 0x85] (fun s => { s with ram := [(0xFF85, 0xC3)] }) (fun s => { s with a := 0xC3, pc := 0x0102, cyc := 3 }) ∧
    vec [0xE0, 0x01] (fun s => { s with a := 0x41 }) (fun s => { s with pc := 0x0102, cyc := 3, sb := 0x41 }) ∧
    vec [0xF2] (fun s => { s with c := 0x80, ram := [(0xFF80, 0x11)] }) (fun s => { s with a := 0x11, pc := 0x0101, cyc := 2 }) := by decide

/-- 40-17 to 40-24. -/
theorem test_vectors_40_17_to_24 :
    vec [0xE2] (fun s => { s with a := 0x3E, c := 0xFF }) (fun s => { s with pc := 0x0101, cyc := 2, ie := 0x3E }) ∧
    vec [0x22] (fun s => { s with a := 0x05, h := 0xFF, l := 0xFF }) (fun s => { s with h := 0x00, l := 0x00, pc := 0x0101, cyc := 2, ie := 0x05 }) ∧
    vec [0x32] (fun s => { s with a := 0x05, h := 0xC0, l := 0x00 }) (fun s => { s with h := 0xBF, l := 0xFF, pc := 0x0101, cyc := 2, ram := [(0xC000, 0x05)] }) ∧
    vec [0x2A] (fun s => { s with h := 0xC0, l := 0xFF, ram := [(0xC0FF, 0x66)] }) (fun s => { s with a := 0x66, h := 0xC1, l := 0x00, pc := 0x0101, cyc := 2 }) ∧
    vec [0x3A] (fun s => { s with h := 0x00, l := 0x00 }) (fun s => { s with a := 0x00, h := 0xFF, l := 0xFF, pc := 0x0101, cyc := 2 }) ∧
    vec [0x11, 0x34, 0x12] id (fun s => { s with d := 0x12, e := 0x34, pc := 0x0103, cyc := 3 }) ∧
    vec [0x31, 0x00, 0xC1] id (fun s => { s with sp := 0xC100, pc := 0x0103, cyc := 3 }) ∧
    vec [0x08, 0x00, 0xC0] id (fun s => { s with pc := 0x0103, cyc := 5, ram := [(0xC000, 0xFE), (0xC001, 0xFF)] }) := by decide

/-- 40-25 to 40-31. -/
theorem test_vectors_40_25_to_31 :
    vec [0x08, 0xFF, 0xFF] (fun s => { s with sp := 0x12AB }) (fun s => { s with pc := 0x0103, cyc := 5, ie := 0xAB }) ∧
    vec [0xF9] (fun s => { s with h := 0xC0, l := 0xDE }) (fun s => { s with sp := 0xC0DE, pc := 0x0101, cyc := 2 }) ∧
    vec [0xC5] (fun s => { s with b := 0xBE, c := 0xEF, sp := 0xC002 }) (fun s => { s with sp := 0xC000, pc := 0x0101, cyc := 4, ram := [(0xC000, 0xEF), (0xC001, 0xBE)] }) ∧
    vec [0xF5] (fun s => { s with sp := 0xC002 }) (fun s => { s with sp := 0xC000, pc := 0x0101, cyc := 4, ram := [(0xC000, 0xB0), (0xC001, 0x01)] }) ∧
    vec [0xF1] (fun s => { s with sp := 0xC000, ram := [(0xC000, 0xFF), (0xC001, 0x12)] }) (fun s => { s with a := 0x12, f := 0xF0, sp := 0xC002, pc := 0x0101, cyc := 3 }) ∧
    vec [0xE1] (fun s => { s with sp := 0xC000, ram := [(0xC000, 0x34), (0xC001, 0x12)] }) (fun s => { s with h := 0x12, l := 0x34, sp := 0xC002, pc := 0x0101, cyc := 3 }) ∧
    vec [0xC1] (fun s => { s with sp := 0xFFFF, ie := 0x21 }) (fun s => { s with c := 0x21, sp := 0x0001, pc := 0x0101, cyc := 3 }) := by decide

/-- 41-1 to 41-8. -/
theorem test_vectors_41_1_to_8 :
    vec [0x80] (fun s => { s with a := 0x0F, b := 0x01 }) (fun s => { s with a := 0x10, f := 0x20, pc := 0x0101, cyc := 1 }) ∧
    vec [0x86] (fun s => { s with a := 0xFF, h := 0xC0, l := 0x00, ram := [(0xC000, 0x01)] }) (fun s => { s with a := 0x00, pc := 0x0101, cyc := 2 }) ∧
    vec [0x87] (fun s => { s with a := 0x80 }) (fun s => { s with a := 0x00, f := 0x90, pc := 0x0101, cyc := 1 }) ∧
    vec [0xC6, 0xC6] (fun s => { s with a := 0x3A }) (fun s => { s with a := 0x00, pc := 0x0102, cyc := 2 }) ∧
    vec [0x88] (fun s => { s with a := 0x0F, f := 0x10, b := 0x00 }) (fun s => { s with a := 0x10, f := 0x20, pc := 0x0101, cyc := 1 }) ∧
    vec [0xCE, 0x00] (fun s => { s with a := 0xFF, f := 0x10 }) (fun s => { s with a := 0x00, f := 0xB0, pc := 0x0102, cyc := 2 }) ∧
    vec [0x8E] (fun s => { s with a := 0x7F, f := 0x00, h := 0xC0, l := 0x00, ram := [(0xC000, 0x01)] }) (fun s => { s with a := 0x80, f := 0x20, pc := 0x0101, cyc := 2 }) ∧
    vec [0x90] (fun s => { s with a := 0x10, b := 0x01 }) (fun s => { s with a := 0x0F, f := 0x60, pc := 0x0101, cyc := 1 }) := by decide

/-- 41-9 to 41-16. -/
theorem test_vectors_41_9_to_16 :
    vec [0x97] (fun s => { s with a := 0x3C }) (fun s => { s with a := 0x00, f := 0xC0, pc := 0x0101, cyc := 1 }) ∧
    vec [0xD6, 0x01] (fun s => { s with a := 0x00 }) (fun s => { s with a := 0xFF, f := 0x70, pc := 0x0102, cyc := 2 }) ∧
    vec [0x98] (fun s => { s with a := 0x05, f := 0x10, b := 0x05 }) (fun s => { s with a := 0xFF, f := 0x70, pc := 0x0101, cyc := 1 }) ∧
    vec [0xDE, 0x00] (fun s => { s with a := 0x00, f := 0x10 }) (fun s => { s with a := 0xFF, f := 0x70, pc := 0x0102, cyc := 2 }) ∧
    vec [0x9E] (fun s => { s with a := 0x20, f := 0x00, h := 0xC0, l := 0x00, ram := [(0xC000, 0x10)] }) (fun s => { s with a := 0x10, f := 0x40, pc := 0x0101, cyc := 2 }) ∧
    vec [0xA1] (fun s => { s with a := 0xF0, c := 0x0F }) (fun s => { s with a := 0x00, f := 0xA0, pc := 0x0101, cyc := 1 }) ∧
    vec [0xE6, 0x3C] (fun s => { s with a := 0xF3 }) (fun s => { s with a := 0x30, f := 0x20, pc := 0x0102, cyc := 2 }) ∧
    vec [0xAF] (fun s => { s with a := 0x5A }) (fun s => { s with a := 0x00, f := 0x80, pc := 0x0101, cyc := 1 }) := by decide

/-- 41-17 to 41-24. -/
theorem test_vectors_41_17_to_24 :
    vec [0xEE, 0xFF] (fun s => { s with a := 0x0F }) (fun s => { s with a := 0xF0, f := 0x00, pc := 0x0102, cyc := 2 }) ∧
    vec [0xB2] (fun s => { s with a := 0x00, d := 0x00 }) (fun s => { s with f := 0x80, pc := 0x0101, cyc := 1 }) ∧
    vec [0xF6, 0x81] (fun s => { s with a := 0x10 }) (fun s => { s with a := 0x91, f := 0x00, pc := 0x0102, cyc := 2 }) ∧
    vec [0xFE, 0x40] (fun s => { s with a := 0x3C }) (fun s => { s with f := 0x50, pc := 0x0102, cyc := 2 }) ∧
    vec [0xBF] (fun s => { s with a := 0x3C }) (fun s => { s with f := 0xC0, pc := 0x0101, cyc := 1 }) ∧
    vec [0xBE] (fun s => { s with a := 0x10, h := 0xC0, l := 0x00, ram := [(0xC000, 0x01)] }) (fun s => { s with f := 0x60, pc := 0x0101, cyc := 2 }) ∧
    vec [0x3C] (fun s => { s with a := 0xFF, f := 0x10 }) (fun s => { s with a := 0x00, f := 0xB0, pc := 0x0101, cyc := 1 }) ∧
    vec [0x04] (fun s => { s with f := 0x00, b := 0x0F }) (fun s => { s with f := 0x20, b := 0x10, pc := 0x0101, cyc := 1 }) := by decide

/-- 41-25 to 41-29. -/
theorem test_vectors_41_25_to_29 :
    vec [0x0D] (fun s => { s with f := 0x00, c := 0x01 }) (fun s => { s with f := 0xC0, c := 0x00, pc := 0x0101, cyc := 1 }) ∧
    vec [0x15] (fun s => { s with f := 0x00, d := 0x00 }) (fun s => { s with f := 0x60, d := 0xFF, pc := 0x0101, cyc := 1 }) ∧
    vec [0x1D] (fun s => { s with f := 0x10, e := 0x10 }) (fun s => { s with f := 0x70, e := 0x0F, pc := 0x0101, cyc := 1 }) ∧
    vec [0x34] (fun s => { s with f := 0x00, h := 0xC0, l := 0x00, ram := [(0xC000, 0xFF)] }) (fun s => { s with f := 0xA0, pc := 0x0101, cyc := 3, ram := [] }) ∧
    vec [0x35] (fun s => { s with f := 0x00, h := 0xFF, l := 0x90, ram := [(0xFF90, 0x01)] }) (fun s => { s with f := 0xC0, pc := 0x0101, cyc := 3, ram := [] }) := by decide

/-- 42-1 to 42-8. -/
theorem test_vectors_42_1_to_8 :
    vec [0x09] (fun s => { s with f := 0x80, b := 0x00, c := 0x01, h := 0x0F, l := 0xFF }) (fun s => { s with f := 0xA0, h := 0x10, l := 0x00, pc := 0x0101, cyc := 2 }) ∧
    vec [0x29] (fun s => { s with f := 0x00, h := 0x80, l := 0x00 }) (fun s => { s with f := 0x10, h := 0x00, pc := 0x0101, cyc := 2 }) ∧
    vec [0x39] (fun s => { s with f := 0x00, h := 0x00, l := 0x01, sp := 0xFFFF }) (fun s => { s with f := 0x30, l := 0x00, pc := 0x0101, cyc := 2 }) ∧
    vec [0x03] (fun s => { s with b := 0xFF, c := 0xFF }) (fun s => { s with b := 0x00, c := 0x00, pc := 0x0101, cyc := 2 }) ∧
    vec [0x3B] (fun s => { s with sp := 0x0000 }) (fun s => { s with sp := 0xFFFF, pc := 0x0101, cyc := 2 }) ∧
    vec [0x1B] (fun s => { s with d := 0x01, e := 0x00 }) (fun s => { s with d := 0x00, e := 0xFF, pc := 0x0101, cyc := 2 }) ∧
    vec [0xE8, 0x01] (fun s => { s with f := 0x00, sp := 0x00FF }) (fun s => { s with f := 0x30, sp := 0x0100, pc := 0x0102, cyc := 4 }) ∧
    vec [0xE8, 0xFF] (fun s => { s with f := 0xF0, sp := 0x0000 }) (fun s => { s with f := 0x00, sp := 0xFFFF, pc := 0x0102, cyc := 4 }) := by decide

/-- 42-9 to 42-12. -/
theorem test_vectors_42_9_to_12 :
    vec [0xE8, 0xFF] (fun s => { s with f := 0x00, sp := 0x0001 }) (fun s => { s with f := 0x30, sp := 0x0000, pc := 0x0102, cyc := 4 }) ∧
    vec [0xE8, 0x80] (fun s => { s with f := 0x00, sp := 0xC080 }) (fun s => { s with f := 0x10, sp := 0xC000, pc := 0x0102, cyc := 4 }) ∧
    vec [0xF8, 0x00] (fun s => { s with f := 0xF0, sp := 0xFFF8 }) (fun s => { s with f := 0x00, h := 0xFF, l := 0xF8, pc := 0x0102, cyc := 3 }) ∧
    vec [0xF8, 0x02] (fun s => { s with f := 0x00, sp := 0xFFFE }) (fun s => { s with f := 0x30, h := 0x00, l := 0x00, pc := 0x0102, cyc := 3 }) := by decide

/-- 43-1 to 43-8. -/
theorem test_vectors_43_1_to_8 :
    vec [0x07] (fun s => { s with a := 0x80, f := 0x00 }) (fun s => { s with a := 0x01, f := 0x10, pc := 0x0101, cyc := 1 }) ∧
    vec [0x07] (fun s => { s with a := 0x00, f := 0x80 }) (fun s => { s with f := 0x00, pc := 0x0101, cyc := 1 }) ∧
    vec [0x0F] (fun s => { s with a := 0x01, f := 0x00 }) (fun s => { s with a := 0x80, f := 0x10, pc := 0x0101, cyc := 1 }) ∧
    vec [0x17] (fun s => { s with a := 0x80, f := 0x00 }) (fun s => { s with a := 0x00, f := 0x10, pc := 0x0101, cyc := 1 }) ∧
    vec [0x1F] (fun s => { s with a := 0x01, f := 0x10 }) (fun s => { s with a := 0x80, pc := 0x0101, cyc := 1 }) ∧
    vec [0x27] (fun s => { s with a := 0x0A, f := 0x00 }) (fun s => { s with a := 0x10, pc := 0x0101, cyc := 1 }) ∧
    vec [0x27] (fun s => { s with a := 0x9A, f := 0x00 }) (fun s => { s with a := 0x00, f := 0x90, pc := 0x0101, cyc := 1 }) ∧
    vec [0x27] (fun s => { s with a := 0x00, f := 0x10 }) (fun s => { s with a := 0x60, pc := 0x0101, cyc := 1 }) := by decide

/-- 43-9 to 43-16. -/
theorem test_vectors_43_9_to_16 :
    vec [0x27] (fun s => { s with a := 0xC0, f := 0x00 }) (fun s => { s with a := 0x20, f := 0x10, pc := 0x0101, cyc := 1 }) ∧
    vec [0x27] (fun s => { s with a := 0x32, f := 0x30 }) (fun s => { s with a := 0x98, f := 0x10, pc := 0x0101, cyc := 1 }) ∧
    vec [0x27] (fun s => { s with a := 0x1F, f := 0x60 }) (fun s => { s with a := 0x19, f := 0x40, pc := 0x0101, cyc := 1 }) ∧
    vec [0x27] (fun s => { s with a := 0xF0, f := 0x50 }) (fun s => { s with a := 0x90, pc := 0x0101, cyc := 1 }) ∧
    vec [0x2F] (fun s => { s with a := 0x35, f := 0x00 }) (fun s => { s with a := 0xCA, f := 0x60, pc := 0x0101, cyc := 1 }) ∧
    vec [0x37] (fun s => { s with f := 0xE0 }) (fun s => { s with f := 0x90, pc := 0x0101, cyc := 1 }) ∧
    vec [0x3F] (fun s => { s with f := 0xF0 }) (fun s => { s with f := 0x80, pc := 0x0101, cyc := 1 }) ∧
    vec [0x3F] (fun s => { s with f := 0x00 }) (fun s => { s with f := 0x10, pc := 0x0101, cyc := 1 }) := by decide

/-- 44-1 to 44-8. -/
theorem test_vectors_44_1_to_8 :
    vec [0xC3, 0x50, 0x01] id (fun s => { s with pc := 0x0150, cyc := 4 }) ∧
    vec [0xC2, 0x50, 0x01] (fun s => { s with f := 0x00 }) (fun s => { s with pc := 0x0150, cyc := 4 }) ∧
    vec [0xCA, 0x50, 0x01] (fun s => { s with f := 0x00 }) (fun s => { s with pc := 0x0103, cyc := 3 }) ∧
    vec [0xDA, 0x50, 0x01] (fun s => { s with f := 0x10 }) (fun s => { s with pc := 0x0150, cyc := 4 }) ∧
    vec [0xE9] (fun s => { s with h := 0xC0, l := 0x00 }) (fun s => { s with pc := 0xC000, cyc := 1 }) ∧
    vec [0x18, 0xFE] id (fun s => { s with pc := 0x0100, cyc := 3 }) ∧
    vec [0x18, 0x7F] id (fun s => { s with pc := 0x0181, cyc := 3 }) ∧
    vec [0x18, 0x80] id (fun s => { s with pc := 0x0082, cyc := 3 }) := by decide

/-- 44-9 to 44-16. -/
theorem test_vectors_44_9_to_16 :
    vec [0x20, 0x05] (fun s => { s with f := 0x00 }) (fun s => { s with pc := 0x0107, cyc := 3 }) ∧
    vec [0x28, 0x05] (fun s => { s with f := 0x00 }) (fun s => { s with pc := 0x0102, cyc := 2 }) ∧
    vec [0x30, 0xFD] (fun s => { s with f := 0x80 }) (fun s => { s with pc := 0x00FF, cyc := 3 }) ∧
    vec [0x38, 0x01] (fun s => { s with f := 0x10 }) (fun s => { s with pc := 0x0103, cyc := 3 }) ∧
    vec [0xCD, 0x00, 0x20] (fun s => { s with sp := 0xC010 }) (fun s => { s with sp := 0xC00E, pc := 0x2000, cyc := 6, ram := [(0xC00E, 0x03), (0xC00F, 0x01)] }) ∧
    vec [0xCD, 0x00, 0x20] (fun s => { s with sp := 0x0000 }) (fun s => { s with sp := 0xFFFE, pc := 0x2000, cyc := 6, ram := [(0xFFFE, 0x03)], ie := 0x01 }) ∧
    vec [0xD4, 0x00, 0x20] (fun s => { s with f := 0x10, sp := 0xC010 }) (fun s => { s with pc := 0x0103, cyc := 3 }) ∧
    vec [0xCC, 0x00, 0x20] (fun s => { s with f := 0x80, sp := 0xC010 }) (fun s => { s with sp := 0xC00E, pc := 0x2000, cyc := 6, ram := [(0xC00E, 0x03), (0xC00F, 0x01)] }) := by decide

/-- 44-17 to 44-22. -/
theorem test_vectors_44_17_to_22 :
    vec [0xC9] (fun s => { s with sp := 0xC000, ram := [(0xC000, 0x34), (0xC001, 0x12)] }) (fun s => { s with sp := 0xC002, pc := 0x1234, cyc := 4 }) ∧
    vec [0xC0] (fun s => { s with f := 0x80, sp := 0xC000 }) (fun s => { s with pc := 0x0101, cyc := 2 }) ∧
    vec [0xD8] (fun s => { s with f := 0x10, sp := 0xC000, ram := [(0xC001, 0x02)] }) (fun s => { s with sp := 0xC002, pc := 0x0200, cyc := 5 }) ∧
    vec [0xD9] (fun s => { s with sp := 0xC000, ram := [(0xC000, 0x34), (0xC001, 0x12)] }) (fun s => { s with sp := 0xC002, pc := 0x1234, cyc := 4 }) ∧
    vec [0xFF] (fun s => { s with sp := 0xC010 }) (fun s => { s with sp := 0xC00E, pc := 0x0038, cyc := 4, ram := [(0xC00E, 0x01), (0xC00F, 0x01)] }) ∧
    vec [0xCF] (fun s => { s with sp := 0xC010 }) (fun s => { s with sp := 0xC00E, pc := 0x0008, cyc := 4, ram := [(0xC00E, 0x01), (0xC00F, 0x01)] }) := by decide

/-- 45-1 to 45-7. -/
theorem test_vectors_45_1_to_7 :
    vec [0x00] id (fun s => { s with pc := 0x0101, cyc := 1 }) ∧
    vec [0x76] id (fun s => { s with pc := 0x0101, cyc := 1 }) ∧
    vec [0x10, 0x00] id (fun s => { s with pc := 0x0101, cyc := 1 }) ∧
    vec [0xF3] id (fun s => { s with pc := 0x0101, cyc := 1 }) ∧
    vec [0xFB] id (fun s => { s with pc := 0x0101, cyc := 1 }) ∧
    vec [0xD3] id (fun s => { s with pc := 0x0101, cyc := 1 }) := by decide

/-- 46-1 to 46-8. -/
theorem test_vectors_46_1_to_8 :
    vec [0xCB, 0x00] (fun s => { s with f := 0x00, b := 0x85 }) (fun s => { s with f := 0x10, b := 0x0B, pc := 0x0102, cyc := 2 }) ∧
    vec [0xCB, 0x07] (fun s => { s with a := 0x00, f := 0x00 }) (fun s => { s with f := 0x80, pc := 0x0102, cyc := 2 }) ∧
    vec [0xCB, 0x06] (fun s => { s with f := 0x00, h := 0xC0, l := 0x00, ram := [(0xC000, 0x80)] }) (fun s => { s with f := 0x10, pc := 0x0102, cyc := 4, ram := [(0xC000, 0x01)] }) ∧
    vec [0xCB, 0x09] (fun s => { s with f := 0x00, c := 0x3B }) (fun s => { s with f := 0x10, c := 0x9D, pc := 0x0102, cyc := 2 }) ∧
    vec [0xCB, 0x0E] (fun s => { s with f := 0x00, h := 0xC0, l := 0x00, ram := [(0xC000, 0x01)] }) (fun s => { s with f := 0x10, pc := 0x0102, cyc := 4, ram := [(0xC000, 0x80)] }) ∧
    vec [0xCB, 0x12] (fun s => { s with f := 0x10, d := 0x80 }) (fun s => { s with d := 0x01, pc := 0x0102, cyc := 2 }) ∧
    vec [0xCB, 0x13] (fun s => { s with f := 0x00, e := 0x80 }) (fun s => { s with f := 0x90, e := 0x00, pc := 0x0102, cyc := 2 }) ∧
    vec [0xCB, 0x16] (fun s => { s with f := 0x10, h := 0xC0, l := 0x00, ram := [(0xC000, 0x55)] }) (fun s => { s with f := 0x00, pc := 0x0102, cyc := 4, ram := [(0xC000, 0xAB)] }) := by decide

/-- 46-9 to 46-16. -/
theorem test_vectors_46_9_to_16 :
    vec [0xCB, 0x1C] (fun s => { s with f := 0x00, h := 0x01 }) (fun s => { s with f := 0x90, h := 0x00, pc := 0x0102, cyc := 2 }) ∧
    vec [0xCB, 0x1E] (fun s => { s with f := 0x10, h := 0xC0, l := 0x00, ram := [(0xC000, 0x02)] }) (fun s => { s with f := 0x00, pc := 0x0102, cyc := 4, ram := [(0xC000, 0x81)] }) ∧
    vec [0xCB, 0x25] (fun s => { s with f := 0x00, l := 0xFF }) (fun s => { s with f := 0x10, l := 0xFE, pc := 0x0102, cyc := 2 }) ∧
    vec [0xCB, 0x26] (fun s => { s with f := 0x00, h := 0xC0, l := 0x00, ram := [(0xC000, 0x80)] }) (fun s => { s with f := 0x90, pc := 0x0102, cyc := 4, ram := [] }) ∧
    vec [0xCB, 0x2F] (fun s => { s with a := 0x8A, f := 0x00 }) (fun s => { s with a := 0xC5, pc := 0x0102, cyc := 2 }) ∧
    vec [0xCB, 0x2E] (fun s => { s with f := 0x00, h := 0xC0, l := 0x00, ram := [(0xC000, 0x01)] }) (fun s => { s with f := 0x90, pc := 0x0102, cyc := 4, ram := [] }) ∧
    vec [0xCB, 0x30] (fun s => { s with f := 0x10, b := 0xF1 }) (fun s => { s with f := 0x00, b := 0x1F, pc := 0x0102, cyc := 2 }) ∧
    vec [0xCB, 0x37] (fun s => { s with a := 0x00, f := 0x00 }) (fun s => { s with f := 0x80, pc := 0x0102, cyc := 2 }) := by decide

/-- 46-17 to 46-19. -/
theorem test_vectors_46_17_to_19 :
    vec [0xCB, 0x36] (fun s => { s with f := 0x00, h := 0xFF, l := 0x80, ram := [(0xFF80, 0xF0)] }) (fun s => { s with pc := 0x0102, cyc := 4, ram := [(0xFF80, 0x0F)] }) ∧
    vec [0xCB, 0x39] (fun s => { s with f := 0x00, c := 0x01 }) (fun s => { s with f := 0x90, c := 0x00, pc := 0x0102, cyc := 2 }) ∧
    vec [0xCB, 0x3E] (fun s => { s with f := 0x00, h := 0xC0, l := 0x00, ram := [(0xC000, 0xFF)] }) (fun s => { s with f := 0x10, pc := 0x0102, cyc := 4, ram := [(0xC000, 0x7F)] }) := by decide

/-- 47-1 to 47-7. -/
theorem test_vectors_47_1_to_7 :
    vec [0xCB, 0x7C] (fun s => { s with f := 0x10, h := 0x80 }) (fun s => { s with f := 0x30, pc := 0x0102, cyc := 2 }) ∧
    vec [0xCB, 0x47] (fun s => { s with a := 0x00, f := 0x00 }) (fun s => { s with f := 0xA0, pc := 0x0102, cyc := 2 }) ∧
    vec [0xCB, 0x5E] (fun s => { s with f := 0xC0, h := 0xC0, l := 0x00, ram := [(0xC000, 0x08)] }) (fun s => { s with f := 0x20, pc := 0x0102, cyc := 3 }) ∧
    vec [0xCB, 0xBF] (fun s => { s with a := 0xFF, f := 0xF0 }) (fun s => { s with a := 0x7F, pc := 0x0102, cyc := 2 }) ∧
    vec [0xCB, 0x86] (fun s => { s with f := 0x00, h := 0xC0, l := 0x00, ram := [(0xC000, 0x01)] }) (fun s => { s with pc := 0x0102, cyc := 4, ram := [] }) ∧
    vec [0xCB, 0xC0] (fun s => { s with f := 0x00, b := 0x00 }) (fun s => { s with b := 0x01, pc := 0x0102, cyc := 2 }) ∧
    vec [0xCB, 0xFE] (fun s => { s with f := 0x50, h := 0xFF, l := 0x80, ram := [(0xFF80, 0x0F)] }) (fun s => { s with pc := 0x0102, cyc := 4, ram := [(0xFF80, 0x8F)] }) := by decide

/-- 45-3 and 45-8, the policies this hardware does not take. -/
theorem test_other_policies :
    Result.isFault (haltUnder .stuck (s0 [0x76])) .stuck = true ∧
      Result.isFault (undefUnder .fault 0xFD (s0 [0xFD])) (.undefinedOpcode 0xFD) = true := by decide

/-! ## The vectors of section 4: bus decoder and cartridge controller -/

/-- B-1 to B-5: mirror, unmapped range, I/O. -/
theorem test_bus_mirror_and_discarding :
    read (write plain 0xC010 0xA5) 0xE010 = some 0xA5 ∧ read (write plain 0xE010 0x3C) 0xC010 = some 0x3C ∧
      read (write plain 0xFDFF 0x11) 0xDDFF = some 0x11 ∧ read (write plain 0xFEA0 0x99) 0xFEA0 = some 0x00 ∧
      read (write plain 0xFEA0 0x99) 0xFEFF = some 0x00 ∧ read (write plain 0xFF0F 0x1F) 0xFF0F = some 0x00 ∧
      read (write plain 0xFF0F 0x1F) 0xFF7F = some 0x00 := by decide

/-- B-6: the serial stub. -/
theorem test_bus_serial :
    write (write (write plain 0xFF01 0x41) 0xFF02 0x80) 0xFF02 0x81 = { plain with sb := 0x41, serialOut := [0x41] } ∧
      read (write plain 0xFF01 0x41) 0xFF01 = some 0x00 ∧ read (write plain 0xFF02 0x81) 0xFF02 = some 0x00 := by decide

/-- B-7 and B-8: high RAM, IE, video RAM, object memory. -/
theorem test_bus_storage :
    read (write plain 0xFF80 0x12) 0xFF80 = some 0x12 ∧ read (write plain 0xFFFE 0x34) 0xFFFE = some 0x34 ∧
      read (write plain 0xFFFF 0xFF) 0xFFFF = some 0xFF ∧ read (write plain 0x9FFF 0x01) 0x9FFF = some 0x01 ∧
      read (write plain 0xFE00 0x02) 0xFE00 = some 0x02 := by decide

/-- B-9 and B-10: the no-banking scheme and the end of its image. -/
theorem test_bus_no_banking :
    read (write plain 0x2000 0x05) 0x4000 = some 0x22 ∧ read (write plain 0xA000 0x77) 0xA000 = some 0x00 ∧
      read (withImage 0x4000 []) 0x3FFF = some 0x00 ∧
      faultOf (perform (.busRead 0x4000) (withImage 0x4000 [])) = some (.cartReadOutOfImage 0x4000) := by decide

/-- B-11 to B-15: ROM banks. -/
theorem test_bus_rom_banks :
    read (write typeOne 0x2000 0x05) 0x4000 = some 0x55 ∧ read (write typeOne 0x2000 0x05) 0x0000 = some 0x31 ∧
      read (write (write typeOne 0x2000 0x05) 0x2000 0x00) 0x4000 = some 0x11 ∧
      banks (write typeOne 0x2000 0x20) 0x01 0 false false = true ∧
      read (write typeOne 0x3FFF 0xE7) 0x7FFF = some 0x77 ∧ banks (write typeOne 0x3FFF 0xE7) 0x07 0 false false = true ∧
      faultOf (perform (.busRead 0x4000) (write typeOne 0x4000 0x02)) = some (.cartReadOutOfImage 0x104000) ∧
      banks (write typeOne 0x4000 0x02) 0x41 0 false false = true := by decide

/-- B-16 to B-18: RAM banks, the mode, RAM enable. -/
theorem test_bus_ram_banks :
    (let s := write (write (write (write (write typeOne 0x6000 0x01) 0x4000 0x03) 0xA000 0x5E) 0x6000 0x00) 0xA000 0x6F
     banks s 0x01 0 false false = true ∧ s.cart.map Cart.eram = some [(0x0000, 0x6F), (0x6000, 0x5E)]) ∧
      (let s := write (write (write typeOne 0x0000 0x0A) 0x1FFF 0x1A) 0x0000 0x0B
       banks s 0x01 0 false false = true ∧ read (write s 0xA123 0x42) 0xA123 = some 0x42) ∧
      banks (write (write typeOne 0x0000 0x0A) 0x1FFF 0x1A) 0x01 0 false true = true ∧
      banks (write (write (write typeOne 0x4000 0x01) 0x6000 0x01) 0x4000 0x02) 0x21 2 true false = true := by decide

/-- B-19: no cartridge. -/
theorem test_bus_no_cartridge :
    faultOf (perform (.busRead 0x0100) State.reset) = some .noCartridge ∧
      faultOf (perform (.busWrite 0xA000 0x00) State.reset) = some .noCartridge ∧
      read (write State.reset 0xC000 0x5A) 0xC000 = some 0x5A := by decide

/-! ## The fault vectors of section 6 -/

/-- F-1, F-2 and F-4: no cartridge at the fetch; a data read beyond the image; a bank write kept, the read after it faulting. -/
theorem test_fault_vectors :
    Result.isFault (step State.reset) .noCartridge = true ∧
      Result.isFault (step (withImage 0x4000 [(0x0100, 0xFA), (0x0102, 0x40)])) (.cartReadOutOfImage 0x4000) = true ∧
      (let s := write (withImage 0x20000 [(0x0100, 0xFA), (0x0102, 0x40), (0x0147, 0x01)]) 0x4000 0x02
       Result.isFault (step s) (.cartReadOutOfImage 0x104000) = true) := by decide

/-- F-3: under `CART_OOB = draw` the read answers some byte. -/
theorem test_draw_answers_a_byte : imageByteUnder .draw { size := 0x4000, cells := [] } 0 0x4000 = .ok (Config.oobByte 0x4000 0) := rfl

/-! ## Cartridge loading -/

/-- A header byte 0x03 at 0x147 selects type 1; an image that ends before 0x147 selects no banking. -/
theorem test_scheme_selection :
    selectScheme { size := 0x148, cells := [(0x147, 0x03)] } = .type1 ∧ selectScheme { size := 0x147, cells := [(0x146, 0x01)] } = .noBanking ∧
      selectScheme { size := 0x148, cells := [(0x147, 0x04)] } = .noBanking ∧
      (Cart.ofImage (Image.ofBytes [0x00, 0x07]) []).image = { size := 2, cells := [(1, 0x07)] } := by decide

/-- The post-boot routine leaves what reset leaves, here with a cartridge loaded (R484). -/
theorem test_post_boot : (match plain.postBoot with | .ok t => decide (t = plain) | .error _ => false) = true := by decide

/-- Bring-up with the load before the CPU initialization keeps the cartridge; `init` after a load drops it (R455, R486). -/
theorem test_bring_up_order :
    perform .cpuInit { plain with a := 0x55, pc := 0x4000, cyc := 9 } = .next plain none ∧
      perform (.init (some [])) plain = .next State.reset none := by decide

/-! ## What the statements' hypotheses ask is met

`work` has a cartridge and the byte 0x01 at HL; `bare` is reset, with no cartridge and HL in a cartridge window; the other
states differ from them in the fields named. -/

def work : State := { s0 [] with a := 0x0F, f := 0x10, b := 0x01, h := 0xC0, l := 0x00, ram := [(0xC000, 0x01)] }

def bare : State := State.reset

theorem test_meets_DecodeOfEncode : WellFormed (.ldHlD16 0x1234) ∧ WellFormed .set7A ∧ WellFormed .undefD3 := by decide

theorem test_meets_EncodeOfDecode : decode [0x21, 0x34, 0x12, 0x00] = .ok (.ldHlD16 0x1234, [0x00]) := rfl

theorem test_meets_PrefixSlotRunsTheExtendedInstruction : work.readable work.hl = true ∧ bare.readable bare.hl = false := by decide

theorem test_meets_LoadRegisterFromHl :
    work.busRead work.hl = .ok 0x01 ∧ bare.busRead bare.hl = .error .noCartridge ∧
      { withImage 0x4000 [] with h := 0x40, l := 0x00 }.busRead 0x4000 = .error (.cartReadOutOfImage 0x4000) := ⟨rfl, rfl, rfl⟩

theorem test_meets_StoreRegisterAtHl : work.windowOpen work.hl = true ∧ bare.windowOpen bare.hl = false := by decide

theorem test_meets_LoadImmediate : work.windowOpen work.hl = true ∧ bare.windowOpen bare.hl = false := by decide

theorem test_meets_LoadAFromMemory :
    work.busRead (work.b ++ work.c) = .ok 0x00 ∧ work.busRead (work.d ++ work.e) = .ok 0x00 ∧ work.busRead 0xC000 = .ok 0x01 ∧
      work.busRead (0xFF00 + (0xFF : Byte).setWidth 16) = .ok 0x00 ∧ work.busRead (0xFF00 + work.c.setWidth 16) = .ok 0x00 ∧
      bare.busRead (bare.b ++ bare.c) = .error .noCartridge ∧ bare.busRead (bare.d ++ bare.e) = .error .noCartridge ∧
      bare.busRead 0x7FFF = .error .noCartridge :=
  ⟨rfl, rfl, rfl, rfl, rfl, rfl, rfl, rfl⟩

theorem test_meets_StoreAToMemory :
    work.windowOpen (work.b ++ work.c) = true ∧ work.windowOpen (work.d ++ work.e) = true ∧ work.windowOpen 0xBFFF = true ∧
      bare.windowOpen (bare.b ++ bare.c) = false ∧ bare.windowOpen (bare.d ++ bare.e) = false ∧ bare.windowOpen 0xBFFF = false := by
  decide

theorem test_meets_TransferAThroughHlAndMoveHl :
    (0xC000 : Word) = work.h ++ work.l ∧ work.windowOpen 0xC000 = true ∧ work.busRead 0xC000 = .ok 0x01 ∧
      (0x014D : Word) = bare.h ++ bare.l ∧ bare.windowOpen 0x014D = false ∧ bare.busRead 0x014D = .error .noCartridge :=
  ⟨rfl, rfl, rfl, rfl, rfl, rfl⟩

theorem test_meets_SixteenBitLoadsAndStoreOfSp :
    (work.windowOpen 0xFFFF = true ∧ work.windowOpen (0xFFFF + 1) = true) ∧ bare.windowOpen 0x7FFF = false ∧
      bare.windowOpen (0x9FFF + 1) = false := by decide

theorem test_meets_PushPair :
    (bare.windowOpen (bare.sp - 2) = true ∧ bare.windowOpen (bare.sp - 1) = true) ∧
      (let s := { bare with sp := 0x8001 }; s.windowOpen (s.sp - 2) = false ∧ s.windowOpen (s.sp - 1) = true) ∧
      (let s := { bare with sp := 0xA001 }; s.windowOpen (s.sp - 2) = true ∧ s.windowOpen (s.sp - 1) = false) := by decide

theorem test_meets_PopPair :
    (work.busRead work.sp = .ok 0x00 ∧ work.busRead (work.sp + 1) = .ok 0x00) ∧
      { bare with sp := 0x0000 }.busRead 0x0000 = .error .noCartridge ∧
      { bare with sp := 0x9FFF }.busRead 0x9FFF = .ok 0x00 ∧ { bare with sp := 0x9FFF }.busRead (0x9FFF + 1) = .error .noCartridge :=
  ⟨⟨rfl, rfl⟩, rfl, rfl, rfl⟩

/-- ADC 0x0F + 0x01 + 1 = 0x11 with H; ADD 0xFF + 0x01 = 0x00 with Z, H and C. -/
theorem test_meets_AddAndAddWithCarry :
    (true = work.cf ∧ (0x11 : Byte).toNat = (work.a.toNat + (0x01 : Byte).toNat + true.toNat) % 256 ∧ work.reg .b = 0x01) ∧
      (0x20 : Byte) = packFlags (decide ((0x11 : Byte) = 0)) false (decide (0x0F < work.a.toNat % 16 + (0x01 : Byte).toNat % 16 + true.toNat))
        (decide (0xFF < work.a.toNat + (0x01 : Byte).toNat + true.toNat)) ∧
      (let s := { work with a := 0xFF }
       (0x00 : Byte).toNat = (s.a.toNat + (0x01 : Byte).toNat + false.toNat) % 256 ∧
         (0xB0 : Byte) = packFlags (decide ((0x00 : Byte) = 0)) false (decide (0x0F < s.a.toNat % 16 + (0x01 : Byte).toNat % 16 + false.toNat))
           (decide (0xFF < s.a.toNat + (0x01 : Byte).toNat + false.toNat))) ∧
      work.busRead work.hl = .ok 0x01 ∧ bare.busRead bare.hl = .error .noCartridge :=
  ⟨by decide, by decide, by decide, rfl, rfl⟩

/-- SBC 0x00 - 0xFF - 1 = 0x00 with every flag; CP 0x0F, 0x01 keeps A. -/
theorem test_meets_SubtractWithBorrowAndCompare :
    (let s := { work with a := 0x00, c := 0xFF }
     true = s.cf ∧ s.reg .c = 0xFF ∧ ((0x00 : Byte).toNat : Int) = ((s.a.toNat : Int) - (0xFF : Byte).toNat - true.toNat) % 256 ∧
       (0xF0 : Byte) = packFlags (decide ((0x00 : Byte) = 0)) true (decide (s.a.toNat % 16 < (0xFF : Byte).toNat % 16 + true.toNat))
         (decide (s.a.toNat < (0xFF : Byte).toNat + true.toNat))) ∧
      (((0x0E : Byte).toNat : Int) = ((work.a.toNat : Int) - (0x01 : Byte).toNat - false.toNat) % 256 ∧
        (0x40 : Byte) = packFlags (decide ((0x0E : Byte) = 0)) true (decide (work.a.toNat % 16 < (0x01 : Byte).toNat % 16 + false.toNat))
          (decide (work.a.toNat < (0x01 : Byte).toNat + false.toNat)) ∧
        work.a = if AluOp.cp = AluOp.cp then work.a else 0x0E) ∧
      work.busRead work.hl = .ok 0x01 ∧ bare.busRead bare.hl = .error .noCartridge :=
  ⟨by decide, by decide, rfl, rfl⟩

/-- AND 0x0F, 0x01 = 0x01; XOR = 0x0E; OR = 0x0F. -/
theorem test_meets_LogicalOperations :
    ((∀ k, k < 8 → (0x01 : Byte).getLsbD k = (work.a.getLsbD k && (0x01 : Byte).getLsbD k)) ∧ (0x20 : Byte) = packFlags (decide ((0x01 : Byte) = 0)) false true false) ∧
      ((∀ k, k < 8 → (0x0E : Byte).getLsbD k = (work.a.getLsbD k ^^ (0x01 : Byte).getLsbD k)) ∧ (0x00 : Byte) = packFlags (decide ((0x0E : Byte) = 0)) false false false) ∧
      ((∀ k, k < 8 → (0x0F : Byte).getLsbD k = (work.a.getLsbD k || (0x01 : Byte).getLsbD k)) ∧ (0x00 : Byte) = packFlags (decide ((0x0F : Byte) = 0)) false false false) ∧
      work.reg .b = 0x01 ∧ work.busRead work.hl = .ok 0x01 ∧ bare.busRead bare.hl = .error .noCartridge :=
  ⟨by decide, by decide, by decide, rfl, rfl, rfl⟩

/-- At 0xFF and at 0x00. -/
theorem test_meets_IncrementAndDecrementByte :
    ((0x00 : Byte).toNat = ((0xFF : Byte).toNat + 1) % 256 ∧ (0xFE : Byte).toNat = ((0xFF : Byte).toNat + 255) % 256 ∧
        (0xB0 : Byte) = packFlags (decide ((0x00 : Byte) = 0)) false (decide ((0xFF : Byte).toNat % 16 = 0x0F)) work.cf ∧
        (0x50 : Byte) = packFlags (decide ((0xFE : Byte) = 0)) true (decide ((0xFF : Byte).toNat % 16 = 0)) work.cf ∧
        { work with d := 0xFF }.reg .d = 0xFF) ∧
      ((0x01 : Byte).toNat = ((0x00 : Byte).toNat + 1) % 256 ∧ (0xFF : Byte).toNat = ((0x00 : Byte).toNat + 255) % 256 ∧ work.reg .d = 0x00) ∧
      work.busRead work.hl = .ok 0x01 ∧ bare.busRead bare.hl = .error .noCartridge :=
  ⟨by decide, by decide, rfl, rfl⟩

theorem test_meets_AddToHl :
    (0xC000 : Word) = work.h ++ work.l ∧ (0x0113 : Word) = work.pair .bc ∧ (0xC113 : Word).toNat = ((0xC000 : Word).toNat + (0x0113 : Word).toNat) % 65536 ∧
      (0x8000 : Word).toNat = ((0xC000 : Word).toNat + (0xC000 : Word).toNat) % 65536 := by decide

theorem test_meets_IncrementAndDecrementPair :
    (let s := { work with sp := 0xFFFF }
     (0x0000 : Word).toNat = ((s.pair .sp).toNat + 1) % 65536 ∧ (0xFFFE : Word).toNat = ((s.pair .sp).toNat + 65535) % 65536) ∧
      (let s := { work with sp := 0x0000 }
       (0x0001 : Word).toNat = ((s.pair .sp).toNat + 1) % 65536 ∧ (0xFFFF : Word).toNat = ((s.pair .sp).toNat + 65535) % 65536) := by decide

/-- Operands 0x7F, 0x80 and 0xFF with SP = 0xFFFE. -/
theorem test_meets_StackRelativeAdjust :
    ((0x007D : Word).toNat : Int) = ((work.sp.toNat : Int) + (if (0x7F : Byte).toNat < 0x80 then ((0x7F : Byte).toNat : Int) else ((0x7F : Byte).toNat : Int) - 256)) % 65536 ∧
      ((0xFF7E : Word).toNat : Int) = ((work.sp.toNat : Int) + (if (0x80 : Byte).toNat < 0x80 then ((0x80 : Byte).toNat : Int) else ((0x80 : Byte).toNat : Int) - 256)) % 65536 ∧
      ((0xFFFD : Word).toNat : Int) = ((work.sp.toNat : Int) + (if (0xFF : Byte).toNat < 0x80 then ((0xFF : Byte).toNat : Int) else ((0xFF : Byte).toNat : Int) - 256)) % 65536 ∧
      (0x30 : Byte) = packFlags false false (decide (0x0F < work.sp.toNat % 16 + (0xFF : Byte).toNat % 16)) (decide (0xFF < work.sp.toNat % 256 + (0xFF : Byte).toNat)) := by
  decide

/-- After an addition with A = 0x9A: both corrections; after a subtraction with A = 0x00 and H, C: both. -/
theorem test_meets_DecimalAdjust :
    (let s := { work with a := 0x9A, f := 0x00 }
     s.nf = false ∧ 6 = (if s.hf = true ∨ 9 < s.a.toNat % 16 then 6 else 0) ∧ 0x60 = (if s.cf = true ∨ 0x9F < s.a.toNat + 6 then 0x60 else 0) ∧
       (0x00 : Byte).toNat = (s.a.toNat + 6 + 0x60) % 256) ∧
      (let s := { work with a := 0x99, f := 0x00 }
       s.nf = false ∧ 0 = (if s.hf = true ∨ 9 < s.a.toNat % 16 then 6 else 0) ∧ 0 = (if s.cf = true ∨ 0x9F < s.a.toNat + 0 then 0x60 else 0) ∧
         (0x99 : Byte).toNat = (s.a.toNat + 0 + 0) % 256) ∧
      (let s := { work with a := 0x00, f := 0x70 }
       s.nf = true ∧ ((0x9A : Byte).toNat : Int) = ((s.a.toNat : Int) - (if s.hf = true then 6 else 0) - (if s.cf = true then 0x60 else 0)) % 256) := by
  decide

theorem test_meets_ComplementAndCarryFlags :
    (0xF0 : Byte).toNat = 255 - work.a.toNat ∧ (0x00 : Byte).toNat = 255 - { work with a := 0xFF }.a.toNat := by decide

/-- Displacements 0x7F and 0x80 from PC = 0x0100; a condition that holds and one that does not, for Z and for C. -/
theorem test_meets_JumpsAndRelativeJumps :
    (((0x0181 : Word).toNat : Int) = ((work.pc.toNat : Int) + 2 + (if (0x7F : Byte).toNat < 0x80 then ((0x7F : Byte).toNat : Int) else ((0x7F : Byte).toNat : Int) - 256)) % 65536) ∧
      (((0x0082 : Word).toNat : Int) = ((work.pc.toNat : Int) + 2 + (if (0x80 : Byte).toNat < 0x80 then ((0x80 : Byte).toNat : Int) else ((0x80 : Byte).toNat : Int) - 256)) % 65536) ∧
      work.condHolds .nz ∧ ¬ work.condHolds .z ∧ work.condHolds .c ∧ ¬ work.condHolds .nc :=
  ⟨by decide, by decide, rfl, by unfold State.condHolds; decide, rfl, by unfold State.condHolds; decide⟩

theorem test_meets_CallsAndRestarts :
    (bare.windowOpen (bare.sp - 2) = true ∧ bare.windowOpen (bare.sp - 1) = true ∧ bare.condHolds .z ∧ ¬ bare.condHolds .nz) ∧
      (let s := { bare with sp := 0x8001 }; s.windowOpen (s.sp - 2) = false ∧ s.condHolds .c) ∧
      (let s := { bare with sp := 0xA001 }; s.windowOpen (s.sp - 2) = true ∧ s.windowOpen (s.sp - 1) = false ∧ s.condHolds .c) :=
  ⟨⟨by decide, by decide, rfl, by unfold State.condHolds; decide⟩, ⟨by decide, rfl⟩, by decide, by decide, rfl⟩

theorem test_meets_Returns :
    (work.busRead work.sp = .ok 0x00 ∧ work.busRead (work.sp + 1) = .ok 0x00 ∧ work.condHolds .c ∧ ¬ work.condHolds .nc) ∧
      { bare with sp := 0x0000 }.busRead 0x0000 = .error .noCartridge ∧
      ({ bare with sp := 0x9FFF }.readable 0x9FFF = true ∧ { bare with sp := 0x9FFF }.busRead (0x9FFF + 1) = .error .noCartridge) :=
  ⟨⟨rfl, rfl, rfl, by unfold State.condHolds; decide⟩, rfl, by decide, rfl⟩

theorem test_meets_NopStopAndInterruptEnables : Instr.ei = .nop ∨ Instr.ei = .stop ∨ Instr.ei = .di ∨ Instr.ei = .ei := by decide

/-- 0x85 rotated left and right, and through the carry. -/
theorem test_meets_ExtendedRotates :
    (0x0B : Byte) = (0x85 : Byte).extractLsb' 0 7 ++ (0x85 : Byte).extractLsb' 7 1 ∧ (0xC2 : Byte) = (0x85 : Byte).extractLsb' 0 1 ++ (0x85 : Byte).extractLsb' 1 7 ∧
      (0x0B : Byte) = (0x85 : Byte).extractLsb' 0 7 ++ BitVec.ofBool work.cf ∧ (0xC2 : Byte) = BitVec.ofBool work.cf ++ (0x85 : Byte).extractLsb' 1 7 ∧
      true = (0x85 : Byte).getLsbD 7 ∧ true = (0x85 : Byte).getLsbD 0 ∧ { work with b := 0x85 }.reg .b = 0x85 ∧
      { work with ram := [(0xC000, 0x85)] }.busRead work.hl = .ok 0x85 ∧ bare.busRead bare.hl = .error .noCartridge :=
  ⟨by decide, by decide, by decide, by decide, by decide, by decide, rfl, rfl, rfl⟩

/-- 0x85 shifted, and its nibbles exchanged. -/
theorem test_meets_ExtendedShiftsAndSwap :
    (0x0A : Byte) = (0x85 : Byte).extractLsb' 0 7 ++ 0#1 ∧ (0xC2 : Byte) = (0x85 : Byte).extractLsb' 7 1 ++ (0x85 : Byte).extractLsb' 1 7 ∧
      (0x58 : Byte) = (0x85 : Byte).extractLsb' 0 4 ++ (0x85 : Byte).extractLsb' 4 4 ∧ (0x42 : Byte) = 0#1 ++ (0x85 : Byte).extractLsb' 1 7 ∧
      true = (0x85 : Byte).getLsbD 7 ∧ true = (0x85 : Byte).getLsbD 0 ∧ { work with b := 0x85 }.reg .b = 0x85 ∧
      { work with ram := [(0xC000, 0x85)] }.busRead work.hl = .ok 0x85 ∧ bare.busRead bare.hl = .error .noCartridge :=
  ⟨by decide, by decide, by decide, by decide, by decide, by decide, rfl, rfl, rfl⟩

theorem test_meets_TestBit :
    (0x30 : Byte) = packFlags (!(0x01 : Byte).getLsbD (0 : BitVec 3).toNat) false true work.cf ∧
      (0xB0 : Byte) = packFlags (!(0x01 : Byte).getLsbD (7 : BitVec 3).toNat) false true work.cf ∧ work.reg .b = 0x01 ∧
      work.busRead work.hl = .ok 0x01 ∧ bare.busRead bare.hl = .error .noCartridge :=
  ⟨by decide, by decide, rfl, rfl, rfl⟩

/-- Bits 0 and 7 of 0x01. -/
theorem test_meets_ResetAndSetBit :
    ((∀ k, k < 8 → (0x00 : Byte).getLsbD k = if k = (0 : BitVec 3).toNat then false else (0x01 : Byte).getLsbD k) ∧
        (∀ k, k < 8 → (0x01 : Byte).getLsbD k = if k = (0 : BitVec 3).toNat then true else (0x01 : Byte).getLsbD k)) ∧
      ((∀ k, k < 8 → (0x01 : Byte).getLsbD k = if k = (7 : BitVec 3).toNat then false else (0x01 : Byte).getLsbD k) ∧
        (∀ k, k < 8 → (0x81 : Byte).getLsbD k = if k = (7 : BitVec 3).toNat then true else (0x01 : Byte).getLsbD k)) ∧
      work.reg .b = 0x01 ∧ work.busRead work.hl = .ok 0x01 ∧ bare.busRead bare.hl = .error .noCartridge :=
  ⟨by decide, by decide, rfl, rfl, rfl⟩

theorem test_meets_RegisterHalvesAndPairs : (0x12FF : Word).toNat = (0x12 : Byte).toNat * 256 + (0xFF : Byte).toNat := by decide

/-- Each region of the statement at its first and last address, with what a read there answers. -/
theorem test_meets_StorageRegionsAndDevices :
    let s := { bare with ram := [(0x8000, 1), (0x9FFF, 2), (0xC000, 3), (0xDDFF, 4), (0xDFFF, 5), (0xFE00, 6), (0xFE9F, 7), (0xFF80, 8), (0xFFFE, 9)], ie := 10 }
    [0x8000, 0x9FFF, 0xC000, 0xDFFF, 0xE000, 0xFDFF, 0xFE00, 0xFE9F].map (read s) = [some 1, some 2, some 3, some 5, some 3, some 4, some 6, some 7] ∧
      [0xFEA0, 0xFEFF, 0xFF00, 0xFF01, 0xFF02, 0xFF7F, 0xFF80, 0xFFFE, 0xFFFF].map (read s) =
        [some 0, some 0, some 0, some 0, some 0, some 0, some 8, some 9, some 10] := by decide

theorem test_meets_NoCartridgeFault :
    bare.cart = none ∧ inCartWindow 0x0000 ∧ inCartWindow 0x7FFF ∧ ¬ inCartWindow 0x8000 ∧ ¬ inCartWindow 0x9FFF ∧ inCartWindow 0xA000 ∧
      inCartWindow 0xBFFF ∧ ¬ inCartWindow 0xC000 ∧ ¬ inCartWindow 0xFFFF := by
  unfold inCartWindow; decide

theorem test_meets_NoBankingScheme :
    plain.cart.map Cart.scheme = some .noBanking ∧ (0x7FFF : Word).toNat < 0x8000 ∧
      (read plain 0x7FFF = some 0x00 ∧ read plain 0xA000 = some 0x00 ∧ read plain 0xBFFF = some 0x00) ∧
      imageByte { size := 0x4000, cells := [(0x3FFF, 1)] } 0 0x3FFF = .ok 1 ∧
      imageByte { size := 0x4000, cells := [] } 0 0x4000 = .error (.cartReadOutOfImage 0x4000) :=
  ⟨by decide, by decide, by decide, rfl, rfl⟩

/-- A type-1 cartridge in each mode, and its windows and register ranges at their ends. -/
theorem test_meets_Type1Controller :
    typeOne.cart.map Cart.scheme = some .type1 ∧ typeOne.cart.map Cart.mode = some .largeRom ∧
      (write typeOne 0x6000 0x01).cart.map Cart.mode = some .largeRam ∧
      [0x0000, 0x3FFF, 0x4000, 0x7FFF, 0xA000, 0xBFFF].map (read typeOne) = [some 0x31, some 0, some 0x11, some 0, some 0, some 0] := by decide

/-- Its register writes at the ends of their ranges. -/
theorem test_meets_Type1Controller_registers :
    banks (write typeOne 0x1FFF 0xFA) 1 0 false true = true ∧ banks (write typeOne 0x2000 0xFF) 0x1F 0 false false = true ∧
      banks (write typeOne 0x3FFF 0x20) 1 0 false false = true ∧ banks (write typeOne 0x5FFF 0x07) 0x61 0 false false = true ∧
      banks (write (write typeOne 0x6000 0xFF) 0x4000 0x07) 1 3 true false = true ∧ banks (write typeOne 0x7FFF 0xFE) 1 0 false false = true := by
  decide

theorem test_meets_BankSwitchIsSeenByTheNextAccess :
    ∃ t ct, typeOne.cart = some ct ∧ ct.scheme = .type1 ∧ 0x2000 ≤ (0x3FFF : Word).toNat ∧ (0x3FFF : Word).toNat < 0x4000 ∧
      exec (.ldIndA16A 0x3FFF) typeOne = .next t ∧ t.busRead (typeOne.pc + 3) = .ok 0x00 ∧ instrLength 0x00 = 1 ∧ 0x4000 ≤ (0x7FFF : Word).toNat :=
  ⟨_, _, rfl, rfl, by decide, by decide, rfl, rfl, by decide, by decide⟩

theorem test_meets_SixteenBitBusAccess :
    (work.busRead 0xC000 = .ok 0x01 ∧ work.busRead (0xC000 + 1) = .ok 0x00) ∧ bare.busRead 0x7FFF = .error .noCartridge ∧
      (bare.readable 0x9FFF = true ∧ bare.busRead (0x9FFF + 1) = .error .noCartridge) ∧
      bare.busWrite 0xFFFF (BitVec.ofNat 8 (0x1234 : Word).toNat) = .ok { bare with ie := 0x34 } ∧
      bare.busWrite 0x0000 (BitVec.ofNat 8 (0x1234 : Word).toNat) = .error .noCartridge :=
  ⟨⟨rfl, rfl⟩, rfl, ⟨by decide, rfl⟩, rfl, rfl⟩

theorem test_meets_LoadAndUnloadCartridge : 1 < ([0x00, 0x07] : List Byte).length ∧ (bare.load [0x00, 0x07] []).unload = bare := by decide

/-- One, two and three operand bytes; the opcode read, the first and the second operand read beyond the last readable address. -/
theorem test_meets_StepRunsTheDecodedInstruction :
    (let s := s0 [0xC3, 0x50, 0x01]
     s.busRead s.pc = .ok 0xC3 ∧ s.busRead (s.pc + 1) = .ok 0x50 ∧ s.busRead (s.pc + 2) = .ok 0x01 ∧ instrLength 0xC3 = 3) ∧
      bare.busRead bare.pc = .error .noCartridge ∧
      (let s := { bare with pc := 0x9FFF, ram := [(0x9FFF, 0x3E)] }
       s.busRead s.pc = .ok 0x3E ∧ 2 ≤ instrLength 0x3E ∧ s.busRead (s.pc + 1) = .error .noCartridge) ∧
      (let s := { bare with pc := 0x9FFE, ram := [(0x9FFE, 0xC3)] }
       s.busRead s.pc = .ok 0xC3 ∧ instrLength 0xC3 = 3 ∧ s.busRead (s.pc + 1) = .ok 0x00 ∧ s.busRead (s.pc + 2) = .error .noCartridge) :=
  ⟨⟨rfl, rfl, rfl, by decide⟩, rfl, ⟨rfl, by decide, rfl⟩, rfl, by decide, rfl, rfl⟩

theorem test_meets_InvariantAtReset :
    (let m : Memory := [(0x8000, 1), (0x9FFF, 1), (0xDFFF, 1), (0xFE9F, 1), (0xFF80, 1), (0xFFFE, 1)]
     m.wf = true ∧ m.keysIn isStorageIndex = true) ∧
      Memory.keysIn isStorageIndex [(0xFFFF, 1)] = false ∧ Memory.wf [(0x8000, 0)] = false ∧ Memory.wf [(0x8001, 1), (0x8000, 1)] = false := by
  decide

/-- States that meet the invariant with and without a cartridge and in each scheme, and states that do not. -/
theorem test_meets_InvariantKeptByEveryStep :
    (bare.inv = true ∧ work.inv = true ∧ typeOne.inv = true) ∧ Result.isNext (step (s0 [0x3C])) { s0 [0x3C] with a := 0x02, f := 0x10, pc := 0x0101, cyc := 1 } = true ∧
      { bare with f := 0x01 }.inv = false ∧ { work with cart := work.cart.map fun ct : Cart => { ct with romBank := 0x20 } }.inv = false ∧
      { typeOne with cart := typeOne.cart.map fun ct : Cart => { ct with ramBank := 1 } }.inv = false := by decide

theorem test_meets_InvariantKeptByTheHost :
    bare.inv = true ∧ perform (.busInit (some [(0x8000, 1)])) work = .next { work with ram := [(0x8000, 1)], cart := none } none ∧
      (Memory.wf [(0x8000, 1)] = true ∧ Memory.keysIn isStorageIndex [(0x8000, 1)] = true) ∧ perform (.busWrite 0xFFFF 0x1F) bare = .next { bare with ie := 0x1F } none ∧
      perform .postBoot work = .next { work with a := 0x01, f := 0xB0, b := 0x00, h := 0x01, l := 0x4D } none ∧
      (perform (.load (some [0x00]) [(0x7FFF, 1)]) bare = .next (bare.load [0x00] [(0x7FFF, 1)]) none ∧ Memory.wf [(0x7FFF, 1)] = true ∧
        Memory.keysIn (fun k => decide (k < 0x8000)) [(0x7FFF, 1)] = true) := by decide

/-- 32 KiB without banking and 2 MiB with it are complete; one byte less is not. -/
theorem test_meets_CompleteCartridgeNeverFaults :
    work.ready = true ∧ (withImage 0x200000 [(0x147, 1)]).ready = true ∧ (withImage 0x7FFF []).ready = false ∧
      (withImage 0x1FFFFF [(0x147, 1)]).ready = false ∧ bare.ready = false := by decide

theorem test_meets_StepFaultsOnlyAtTheCartridge :
    Result.isFault (step bare) .noCartridge = true ∧ Result.isFault (step { withImage 0x4000 [] with pc := 0x4000 }) (.cartReadOutOfImage 0x4000) = true := by
  decide

/-- A store to a mirror address: its alias is the same place, its neighbour another, a ROM address none; a type-1 register
write keeps what the second clause names. -/
theorem test_meets_MemoryFrameOfEveryInstruction :
    (work.inv = true ∧ (∃ t, exec (.ldIndA16A 0xE000) work = .next t) ∧ storesAt (.ldIndA16A 0xE000) work = [0xE000] ∧
        work.storagePlace 0xE000 = work.storagePlace 0xC000 ∧ work.storagePlace 0xE000 ≠ work.storagePlace 0xC001 ∧ work.storagePlace 0x0000 = none) ∧
      (typeOne.inv = true ∧ (∃ t, exec (.ldIndA16A 0x2000) typeOne = .next t) ∧ typeOne.storagePlace 0x2000 ≠ typeOne.storagePlace 0xFFFF) ∧
      work.cart.map Cart.scheme = some .noBanking :=
  ⟨⟨by decide, ⟨_, rfl⟩, rfl, by decide, by decide, by decide⟩, ⟨by decide, ⟨_, rfl⟩, by decide⟩, by decide⟩

theorem test_meets_StorageReadsBackWhatWasWritten :
    typeOne.inv = true ∧ [0x8000, 0xA000, 0xBFFF, 0xDFFF, 0xE000].map typeOne.storagePlace =
        [some (.ram 0x8000), some (.eram 0x0000), some (.eram 0x1FFF), some (.ram 0xDFFF), some (.ram 0xC000)] ∧
      [0xFDFF, 0xFE9F, 0xFEA0, 0xFF7F, 0xFFFE, 0xFFFF].map typeOne.storagePlace =
        [some (.ram 0xDDFF), some (.ram 0xFE9F), none, none, some (.ram 0xFFFE), some .ie] := by decide

theorem test_meets_RamEnableAffectsNothingElse :
    (write typeOne 0x0000 0x0A).forgetRamEnable = typeOne.forgetRamEnable ∧ write typeOne 0x0000 0x0A ≠ typeOne := by decide

/-- A step that appends to the serial output, and the longest one. -/
theorem test_meets_ImageKeptAndSerialOutputOnlyGrows :
    ∃ t, step { s0 [0xE0, 0x02] with a := 0x81, sb := 0x41 } = .next t ∧ t.serialOut = [0x41] := ⟨_, rfl, rfl⟩

theorem test_meets_EveryStepChargesOneToSixCycles : ∃ t, step (s0 [0xCD, 0x00, 0x20]) = .next t ∧ t.cyc = 6 := ⟨_, rfl, rfl⟩

theorem test_meets_StackRoundTrip :
    (bare.inv = true ∧ bare.storagePlace (bare.sp - 2) ≠ none ∧ bare.storagePlace (bare.sp - 1) ≠ none) ∧
      (let s := { bare with sp := 0xE001 }; s.inv = true ∧ s.storagePlace (s.sp - 2) = some (.ram 0xDFFF) ∧ s.storagePlace (s.sp - 1) = some (.ram 0xC000)) := by
  decide

theorem test_meets_DecimalAdjustAddsInDecimal :
    (Instr.addAD8 0x99 = .addAD8 0x99 ∧ 0 = 0) ∧ (Instr.adcAD8 0x99 = .adcAD8 0x99 ∧ 1 = work.cf.toNat) ∧
      { work with a := 0x99 }.a.toNat % 16 < 10 ∧ { work with a := 0x99 }.a.toNat / 16 < 10 ∧ (0x99 : Byte).toNat % 16 < 10 ∧ (0x99 : Byte).toNat / 16 < 10 := by
  decide

/-- A load, an unload and the post-boot routine each answer a next state. -/
theorem test_meets_BringUpOrder :
    perform (.load (some [0x00]) []) bare = .next (bare.load [0x00] []) none ∧ perform .unload work = .next work.unload none ∧
      perform .postBoot bare = .next bare none := by decide

end Sys2Proof.Tests
end

section
/-! The state (spec/10_state.md): a step keeps the invariant, initialization meets it, and the register pairs are their
halves. -/

namespace Sys2Proof.Machine

/-! ## The invariant -/

/-- Every instruction keeps the invariant: it delivers bytes to the bus and keeps F or rebuilds it with bits 3..0 as 0. -/
theorem exec_keeps_inv {i : Instr} {s t : State} (h : s.inv = true) (ht : exec i s = .next t) : t.inv = true := by
  obtain ⟨ws, -, -, hbus, hf⟩ := exec_effect i s t ht
  rw [← deliverAll_f ws s] at hf
  exact inv_of_sameBus (deliverAll_inv h ws) hbus hf

theorem step_keeps_inv {s t : State} (h : s.inv = true) (ht : step s = .next t) : t.inv = true := by
  obtain ⟨i, -, hexec⟩ := step_next.mp ht
  exact exec_keeps_inv h hexec

/-- Initialization leaves no cartridge and F = 0xB0, so the invariant asks only for the buffers' contents. -/
theorem init_inv {initMem : Memory} (hwf : initMem.wf = true) (hkeys : initMem.keysIn isStorageIndex = true) :
    (State.init initMem).inv = true := by
  have hcart : ∀ ct, (State.init initMem).cart = some ct → ct.inv = true := by
    rintro ct ⟨⟩
  have hf : (0xB0 : Byte).extractLsb' 0 4 = 0 := by decide
  exact (inv_iff _).mpr ⟨hf, hwf, hkeys, hcart⟩

/-! ## Pairs and their halves (R31, R32) -/

theorem eq_join_of_toNat {v : Word} {hi lo : Byte} (h : v.toNat = hi.toNat * 256 + lo.toNat) : v = join hi lo :=
  BitVec.eq_of_toNat_eq (h.trans (toNat_join hi lo).symm)

/-- The byte F takes from AF: bits 7..4, then 0000 (R32, R34). -/
theorem mask_eq_append (v : Byte) : v &&& 0xF0 = v.extractLsb' 4 4 ++ 0b0000#4 := by
  have mask : ∀ i < 8, (0xF0 : Byte).getLsbD i = decide (4 ≤ i) := by decide
  apply BitVec.eq_of_getLsbD_eq
  intro i hi
  rw [BitVec.getLsbD_and, mask i hi, BitVec.getLsbD_append]
  by_cases h : i < 4
  · simp [h]
  · simp [h, show 4 ≤ i by omega, show i - 4 < 4 by omega, show 4 + (i - 4) = i by omega]

theorem setBc_join (s : State) (hi lo : Byte) : s.setBc (join hi lo) = { s with b := hi, c := lo } := by
  simp [State.setBc]

theorem setDe_join (s : State) (hi lo : Byte) : s.setDe (join hi lo) = { s with d := hi, e := lo } := by
  simp [State.setDe]

theorem setHl_join (s : State) (hi lo : Byte) : s.setHl (join hi lo) = { s with h := hi, l := lo } := by
  simp [State.setHl]

theorem setAf_join (s : State) (hi lo : Byte) :
    s.setAf (join hi lo) = { s with a := hi, f := lo.extractLsb' 4 4 ++ 0b0000#4 } := by
  rw [State.setAf, hiByte_join, loByte_join, mask_eq_append]

@[simp] theorem pair_setPair (s : State) (v : Word) (rr : Pair) : (s.setPair rr v).pair rr = v := by
  cases rr with
  | bc => exact join_hi_lo v
  | de => exact join_hi_lo v
  | hl => exact join_hi_lo v
  | sp => rfl

/-! ## The statements -/

/-- Settles O48: a step that answers a next state is `exec` of some instruction, and `exec_effect` says what that does. -/
theorem invariantKeptByEveryStep : Obligations.InvariantKeptByEveryStep := fun _ _ h ht => step_keeps_inv h ht

/-- Settles O36: a pair is `join` of its halves, and a word is `join` of its bytes. -/
theorem registerHalvesAndPairs : Obligations.RegisterHalvesAndPairs := by
  refine ⟨fun s => ?_, fun s v hi lo hv => ?_, pair_setPair, fun s v => ?_⟩
  · exact ⟨toNat_join s.b s.c, toNat_join s.d s.e, toNat_join s.h s.l, toNat_join s.a s.f⟩
  · obtain rfl := eq_join_of_toNat hv
    exact ⟨setBc_join s hi lo, setDe_join s hi lo, setHl_join s hi lo, rfl,
      setBc_join s hi lo, setDe_join s hi lo, setHl_join s hi lo, setAf_join s hi lo⟩
  · exact ⟨rfl, rfl, rfl, rfl, rfl, rfl, rfl, rfl, rfl, rfl, rfl, rfl, rfl, rfl⟩

/-- Settles O47: the reset state is the initialization with empty buffers. -/
theorem invariantAtReset : Obligations.InvariantAtReset := by
  refine ⟨fun initMem hwf hkeys => init_inv hwf hkeys, ?_⟩
  exact init_inv (initMem := []) rfl rfl

end Sys2Proof.Machine
end

section
/-! The memory frame of an instruction (R90, R120, R123): what the bus answers at each address, what a write makes of each
storage byte, and what stores in order leave readable as before. -/

namespace Sys2Proof.Machine

/-! ## The bank registers -/

/-- The registers that say which image and external RAM bytes the banked windows show. -/
def State.banks (s : State) : Option (Image × Scheme × BitVec 7 × BitVec 2) :=
  s.cart.map fun ct => (ct.image, ct.scheme, ct.romBank, ct.ramBank)

/-- A write to `b` reaches no bank register of a type-1 cartridge. -/
def State.sparesBanks (s : State) (b : Word) : Prop :=
  0x8000 ≤ b.toNat ∨ ∀ ct, s.cart = some ct → ct.scheme = .noBanking

/-- A place outside external RAM: no bank register moves it to another address. -/
def Place.fixed (p : Place) : Prop := ∀ k, p ≠ .eram k

theorem mapCart_of_fixed {s : State} {k : Cart → Cart} (h : ∀ ct, s.cart = some ct → k ct = ct) : s.mapCart k = s := by
  have hc : s.cart.map k = s.cart := by
    cases hs : s.cart with
    | none => rfl
    | some ct => rw [Option.map_some, h ct hs]
  rw [State.mapCart, hc]

theorem writeRam_banks (ct : Cart) (a : Word) (v : Byte) :
    ((ct.writeRam a v).image, (ct.writeRam a v).scheme, (ct.writeRam a v).romBank, (ct.writeRam a v).ramBank) =
      (ct.image, ct.scheme, ct.romBank, ct.ramBank) := by
  unfold Cart.writeRam
  split <;> rfl

/-- Only a write to a ROM window of a type-1 cartridge changes a bank register (R110 to R112). -/
theorem deliver_banks {s : State} {b : Word} (h : s.sparesBanks b) (v : Byte) : (s.deliver b v).banks = s.banks := by
  have hr := covers_decodeAddr b
  have rom : b.toNat < 0x8000 → ∀ ct, s.cart = some ct → ct.scheme = .noBanking := fun hb => h.resolve_left (by omega)
  unfold State.deliver
  cases hd : decodeAddr b <;> rw [hd] at hr <;> simp only [Region.covers] at hr ⊢
  case romFixed => rw [mapCart_of_fixed fun ct hct => by rw [Cart.writeFixed, rom (by omega) ct hct]]
  case romSwitch => rw [mapCart_of_fixed fun ct hct => by rw [Cart.writeSwitch, rom (by omega) ct hct]]
  case extRam =>
    unfold State.banks
    cases hc : s.cart <;> simp [hc, writeRam_banks]
  all_goals simp [State.banks]

theorem banks_eq_none {s : State} : s.banks = none ↔ s.cart = none := Option.map_eq_none_iff

theorem banks_eq_some {s : State} {x : Image × Scheme × BitVec 7 × BitVec 2} :
    s.banks = some x ↔ ∃ ct, s.cart = some ct ∧ (ct.image, ct.scheme, ct.romBank, ct.ramBank) = x := Option.map_eq_some_iff

/-- Two states with the same banks have no cartridge, or cartridges that differ only in mode, RAM enable and external RAM. -/
theorem carts_of_banks {s t : State} (h : t.banks = s.banks) :
    (t.cart = none ∧ s.cart = none) ∨
      ∃ ct ct', t.cart = some ct' ∧ s.cart = some ct ∧ ct'.image = ct.image ∧ ct'.scheme = ct.scheme ∧
        ct'.romBank = ct.romBank ∧ ct'.ramBank = ct.ramBank := by
  cases hs : s.cart with
  | none => exact Or.inl ⟨banks_eq_none.mp (h.trans (banks_eq_none.mpr hs)), rfl⟩
  | some ct =>
    obtain ⟨ct', ht, heq⟩ := banks_eq_some.mp (h.trans (banks_eq_some.mpr ⟨ct, hs, rfl⟩))
    simp only [Prod.mk.injEq] at heq
    exact Or.inr ⟨ct, ct', ht, rfl, heq⟩

theorem storagePlace_of_banks {s t : State} (h : t.banks = s.banks) (a : Word) : t.storagePlace a = s.storagePlace a := by
  unfold State.storagePlace
  cases decodeAddr a
  case extRam =>
    obtain ⟨ht, hs⟩ | ⟨ct, ct', ht, hs, -, hsch, -, hram⟩ := carts_of_banks h
    · simp only [ht, hs]
    · have hidx : ct'.eramIndex a = ct.eramIndex a := by unfold Cart.eramIndex; rw [hram]
      simp only [ht, hs, hsch, hidx]
  all_goals rfl

/-- A read does not depend on the cycle counter: this hardware's policy beyond the image is the fault (R114). -/
theorem imageByte_eq (img : Image) (cyc : Cycles) (i : Nat) : imageByte img cyc i = img.byteAt i := rfl

/-! ## What an access answers, window by window -/

theorem fromCart_some {s : State} {ct : Cart} (h : s.cart = some ct) (k : Cart → Except Fault Byte) : s.fromCart k = k ct := by
  rw [State.fromCart, h]

theorem fromCart_none {s : State} (h : s.cart = none) (k : Cart → Except Fault Byte) :
    s.fromCart k = .error .noCartridge := by
  rw [State.fromCart, h]

theorem busRead_romFixed {s : State} {ct : Cart} {a : Word} (hc : s.cart = some ct) (ha : a.toNat < 0x4000) :
    s.busRead a = ct.image.byteAt a.toNat := by
  simp only [State.busRead, decodeAddr_romFixed ha, fromCart_some hc]
  exact imageByte_eq _ _ _

theorem busRead_romSwitch {s : State} {ct : Cart} {a : Word} (hc : s.cart = some ct)
    (ha : 0x4000 ≤ a.toNat ∧ a.toNat < 0x8000) : s.busRead a = ct.image.byteAt (ct.switchOffset a) := by
  simp only [State.busRead, decodeAddr_romSwitch ha, fromCart_some hc]
  exact imageByte_eq _ _ _

theorem busRead_extRam {s : State} {ct : Cart} {a : Word} (hc : s.cart = some ct)
    (ha : 0xA000 ≤ a.toNat ∧ a.toNat < 0xC000) : s.busRead a = .ok (ct.readRam a) := by
  simp only [State.busRead, decodeAddr_extRam ha, fromCart_some hc]

/-- The cartridge windows are the regions the decoder gives the cartridge. -/
theorem isCart_decodeAddr (a : Word) : (decodeAddr a).isCart = true ↔ inCartWindow a := by
  have hr := covers_decodeAddr a
  unfold inCartWindow
  cases hd : decodeAddr a <;> rw [hd] at hr <;> simp only [Region.covers, Region.isCart] at hr ⊢ <;> simp <;> omega

theorem busRead_noCart {s : State} {a : Word} (hc : s.cart = none) (ha : inCartWindow a) :
    s.busRead a = .error .noCartridge := by
  rw [← isCart_decodeAddr] at ha
  unfold State.busRead
  cases hd : decodeAddr a <;> simp [hd, Region.isCart] at ha ⊢ <;> exact fromCart_none hc _

/-- Outside the cartridge windows an address that is no storage reads 0x00 (R84, R86). -/
theorem busRead_zero {s : State} {a : Word} (hw : ¬ inCartWindow a) (hp : s.storagePlace a = none) : s.busRead a = .ok 0x00 := by
  rw [← isCart_decodeAddr] at hw
  unfold State.busRead
  cases hd : decodeAddr a <;> simp [hd, Region.isCart, State.storagePlace] at hw hp ⊢

/-- In the external RAM window only a type-1 cartridge has storage. -/
theorem readRam_of_noPlace {s : State} {ct : Cart} {a : Word} (hc : s.cart = some ct)
    (ha : 0xA000 ≤ a.toNat ∧ a.toNat < 0xC000) (hp : s.storagePlace a = none) : ct.readRam a = 0x00 := by
  simp only [State.storagePlace, decodeAddr_extRam ha, hc] at hp
  unfold Cart.readRam
  cases hs : ct.scheme with
  | noBanking => rfl
  | type1 => rw [hs] at hp; cases hp

theorem busRead_of_banks {s t : State} (h : t.banks = s.banks) {a : Word} (hp : s.storagePlace a = none) :
    t.busRead a = s.busRead a := by
  have hpt : t.storagePlace a = none := (storagePlace_of_banks h a).trans hp
  by_cases hw : inCartWindow a
  · obtain ⟨ht, hs⟩ | ⟨ct, ct', ht, hs, himg, hsch, hrom, -⟩ := carts_of_banks h
    · rw [busRead_noCart ht hw, busRead_noCart hs hw]
    · by_cases hfix : a.toNat < 0x4000
      · rw [busRead_romFixed ht hfix, busRead_romFixed hs hfix, himg]
      by_cases hswi : a.toNat < 0x8000
      · have ha : 0x4000 ≤ a.toNat ∧ a.toNat < 0x8000 := ⟨by omega, hswi⟩
        have hoff : ct'.switchOffset a = ct.switchOffset a := by unfold Cart.switchOffset; rw [hsch, hrom]
        rw [busRead_romSwitch ht ha, busRead_romSwitch hs ha, himg, hoff]
      · have ha : 0xA000 ≤ a.toNat ∧ a.toNat < 0xC000 := hw.resolve_left hswi
        rw [busRead_extRam ht ha, busRead_extRam hs ha, readRam_of_noPlace ht ha hpt, readRam_of_noPlace hs ha hp]
  · rw [busRead_zero hw hpt, busRead_zero hw hp]

/-- Outside external RAM the place of an address is the same in every state. -/
theorem storagePlace_of_fixed {s t : State} {a : Word} {p : Place} (hp : p.fixed) (h : t.storagePlace a = some p) :
    s.storagePlace a = some p := by
  unfold State.storagePlace at h ⊢
  cases hd : decodeAddr a <;> rw [hd] at h
  case extRam =>
    cases hc : t.cart with
    | none => simp [hc] at h
    | some ct =>
      simp only [hc] at h
      split at h
      · cases h
      · cases h; exact absurd rfl (hp _)
  all_goals exact h

/-! ## What a write makes of each storage byte -/

theorem inv_ram_wf {s : State} (h : s.inv = true) : s.ram.wf = true := ((inv_iff s).mp h).2.1

theorem inv_eram_wf {s : State} {ct : Cart} (h : s.inv = true) (hc : s.cart = some ct) : ct.eram.wf = true := by
  obtain ⟨-, -, -, hcart⟩ := (inv_iff s).mp h
  obtain ⟨-, -, heram, -⟩ := (cart_inv_iff ct).mp (hcart ct hc)
  exact heram

theorem atPlace_setRam {s : State} (h : s.inv = true) (k : Nat) (v : Byte) (p : Place) :
    (s.setRam k v).atPlace p = if some (Place.ram k) = some p then v else s.atPlace p := by
  cases p with
  | ram j => simp [State.atPlace, Memory.get_set (inv_ram_wf h), eq_comm]
  | eram j => simp [State.atPlace]
  | ie => simp [State.atPlace]

/-- A register write of the controller leaves external RAM as it is (R109 to R112). -/
theorem writeFixed_eram (ct : Cart) (a : Word) (v : Byte) : (ct.writeFixed a v).eram = ct.eram := by
  unfold Cart.writeFixed
  split
  · rfl
  · split <;> rfl

theorem writeSwitch_eram (ct : Cart) (a : Word) (v : Byte) : (ct.writeSwitch a v).eram = ct.eram := by
  unfold Cart.writeSwitch Cart.writeBankHigh Cart.writeMode
  split
  · rfl
  · split <;> split <;> rfl

theorem atPlace_mapCart {s : State} {k : Cart → Cart} (h : ∀ ct, (k ct).eram = ct.eram) (p : Place) :
    (s.mapCart k).atPlace p = s.atPlace p := by
  cases p with
  | ram j => rfl
  | eram j => simp only [State.atPlace, mapCart_cart, Option.map_map, Function.comp_def, h]
  | ie => rfl

/-- In the external RAM window the place is the window's external RAM byte, under the type-1 scheme only. -/
theorem storagePlace_extRam {s : State} {a : Word} (hd : decodeAddr a = .extRam) :
    s.storagePlace a = s.cart.bind fun ct => if ct.scheme = .type1 then some (.eram (ct.eramIndex a)) else none := by
  unfold State.storagePlace
  rw [hd]
  cases hc : s.cart with
  | none => rfl
  | some ct => cases hs : ct.scheme <;> simp [hs]

theorem atPlace_writeRam {s : State} (h : s.inv = true) {a : Word} (hd : decodeAddr a = .extRam) (v : Byte) (p : Place) :
    (s.mapCart fun ct => ct.writeRam a v).atPlace p = if s.storagePlace a = some p then v else s.atPlace p := by
  rw [storagePlace_extRam hd]
  cases hc : s.cart with
  | none => cases p <;> simp [State.atPlace, hc]
  | some ct =>
    cases hs : ct.scheme with
    | noBanking => cases p <;> simp [State.atPlace, hc, Cart.writeRam, hs]
    | type1 =>
      cases p with
      | ram j => simp [State.atPlace, hs]
      | eram j => simp [State.atPlace, hc, Cart.writeRam, hs, Memory.get_set (inv_eram_wf h hc), eq_comm]
      | ie => simp [State.atPlace, hs]

/-- Read after write, for every storage byte and every address written to (R90, R120). -/
theorem atPlace_deliver {s : State} (h : s.inv = true) (b : Word) (v : Byte) (p : Place) :
    (s.deliver b v).atPlace p = if s.storagePlace b = some p then v else s.atPlace p := by
  unfold State.deliver
  cases hd : decodeAddr b
  case extRam => exact atPlace_writeRam h hd v p
  case romFixed => simpa [State.storagePlace, hd] using atPlace_mapCart (fun ct => writeFixed_eram ct b v) p
  case romSwitch => simpa [State.storagePlace, hd] using atPlace_mapCart (fun ct => writeSwitch_eram ct b v) p
  case ie => cases p <;> simp [State.storagePlace, hd, State.atPlace]
  case io => cases p <;> simp [State.storagePlace, hd, State.atPlace]
  case unmapped => simp [State.storagePlace, hd]
  all_goals simpa only [State.storagePlace, hd] using atPlace_setRam h (storageIndex b) v p

/-! ## Writes in order -/

theorem sparesBanks_deliver {s : State} {b : Word} (h : s.sparesBanks b) (c : Word) (v : Byte) :
    (s.deliver c v).sparesBanks b := by
  refine h.imp_right fun hno ct' hct' => ?_
  cases hc : s.cart with
  | none => rw [deliver_noCart hc] at hct'; cases hct'
  | some ct =>
    obtain ⟨ct'', hct'', -, hsch⟩ := deliver_cart hc c v
    obtain rfl := Option.some.inj (hct''.symm.trans hct')
    exact hsch.trans (hno ct hc)

theorem deliverAll_banks {s : State} {ws : List (Word × Byte)} (h : ∀ w ∈ ws, s.sparesBanks w.1) :
    (s.deliverAll ws).banks = s.banks := by
  induction ws generalizing s with
  | nil => rfl
  | cons w ws ih =>
    rw [List.forall_mem_cons] at h
    exact (ih fun x hx => sparesBanks_deliver (h.2 x hx) w.1 w.2).trans (deliver_banks h.1 w.2)

/-- Writes that name a storage byte by none of its addresses leave it, where no bank register moves it meanwhile. -/
theorem atPlace_deliverAll {s : State} (h : s.inv = true) {ws : List (Word × Byte)} {p : Place}
    (hmoves : (∀ w ∈ ws, s.sparesBanks w.1) ∨ p.fixed) (hne : ∀ w ∈ ws, s.storagePlace w.1 ≠ some p) :
    (s.deliverAll ws).atPlace p = s.atPlace p := by
  induction ws generalizing s with
  | nil => rfl
  | cons w ws ih =>
    simp only [List.forall_mem_cons] at hmoves hne
    have hplace : ∀ a, s.storagePlace a ≠ some p → (s.deliver w.1 w.2).storagePlace a ≠ some p := by
      obtain ⟨hw, -⟩ | hp := hmoves
      · exact fun a ha => (storagePlace_of_banks (deliver_banks hw w.2) a).symm ▸ ha
      · exact fun a ha hu => ha (storagePlace_of_fixed hp hu)
    have hmoves' := hmoves.imp_left fun hb x hx => sparesBanks_deliver (hb.2 x hx) w.1 w.2
    rw [deliverAll_cons, ih (deliver_inv h w.1 w.2) hmoves' fun x hx => hplace x.1 (hne.2 x hx), atPlace_deliver h, if_neg hne.1]

/-- A write leaves image and scheme as they are, with a cartridge or without (R123). -/
theorem deliverAll_image_scheme (s : State) (ws : List (Word × Byte)) :
    (s.deliverAll ws).cart.map Cart.image = s.cart.map Cart.image ∧
      (s.deliverAll ws).cart.map Cart.scheme = s.cart.map Cart.scheme := by
  cases hc : s.cart with
  | none => simp [deliverAll_noCart hc]
  | some ct =>
    obtain ⟨ct', hct', himg, hsch⟩ := deliverAll_cart hc ws
    simp [hct', himg, hsch]

/-- A read sees only the bus and the cartridge. -/
theorem SameBus.busRead {s t : State} (h : SameBus s t) (a : Word) : s.busRead a = t.busRead a := by
  unfold State.busRead State.fromCart
  simp only [Cart.readFixed, Cart.readSwitch, imageByte_eq, h.ram, h.ie, h.cart]

/-! ## The frame of an instruction -/

/-- Neither the switchable nor the external RAM window: no bank register bears on the address. -/
def unbanked (a : Word) : Prop := a.toNat < 0x4000 ∨ (0x8000 ≤ a.toNat ∧ a.toNat < 0xA000) ∨ 0xC000 ≤ a.toNat

theorem fixed_of_unbanked {s : State} {a : Word} {p : Place} (ha : unbanked a) (hp : s.storagePlace a = some p) : p.fixed := by
  rintro k rfl
  have hr := covers_decodeAddr a
  unfold unbanked at ha
  unfold State.storagePlace at hp
  cases hd : decodeAddr a <;> rw [hd] at hp hr
  case extRam => simp only [Region.covers] at hr; omega
  all_goals cases hp

/-- An unbanked address that is no storage is one of the fixed window, or reads 0x00. -/
theorem busRead_unbanked {s t : State} (himg : t.cart.map Cart.image = s.cart.map Cart.image) {a : Word} (ha : unbanked a)
    (hs : s.storagePlace a = none) (ht : t.storagePlace a = none) : t.busRead a = s.busRead a := by
  by_cases hw : inCartWindow a
  · have hfix : a.toNat < 0x4000 := by unfold inCartWindow at hw; unfold unbanked at ha; omega
    cases hc : s.cart with
    | none =>
      rw [hc] at himg
      rw [busRead_noCart hc hw, busRead_noCart (Option.map_eq_none_iff.mp himg) hw]
    | some ct =>
      rw [hc] at himg
      obtain ⟨ct', hct', heq⟩ := Option.map_eq_some_iff.mp himg
      rw [busRead_romFixed hct' hfix, busRead_romFixed hc hfix, heq]
  · rw [busRead_zero hw ht, busRead_zero hw hs]

theorem storagePlace_none_of_unbanked {s t : State} {a : Word} (ha : unbanked a) (hs : s.storagePlace a = none) :
    t.storagePlace a = none :=
  Option.eq_none_iff_forall_not_mem.mpr fun p hp => by
    rw [storagePlace_of_fixed (fixed_of_unbanked ha hp) hp] at hs
    cases hs

/-- What an instruction's stores leave readable as before: each byte none of them names (R90, R120, R123). -/
theorem busRead_deliverAll {s : State} (h : s.inv = true) {ws : List (Word × Byte)} {a : Word}
    (hmoves : (∀ w ∈ ws, s.sparesBanks w.1) ∨ unbanked a)
    (ha : s.storagePlace a = none ∨ ∀ w ∈ ws, s.storagePlace w.1 ≠ s.storagePlace a) :
    (s.deliverAll ws).busRead a = s.busRead a := by
  cases hp : s.storagePlace a with
  | none =>
    obtain hb | hu := hmoves
    · exact busRead_of_banks (deliverAll_banks hb) hp
    · exact busRead_unbanked (deliverAll_image_scheme s ws).1 hu hp (storagePlace_none_of_unbanked hu hp)
  | some p =>
    rw [hp] at ha
    have hne := ha.resolve_left (by simp)
    have hp' : (s.deliverAll ws).storagePlace a = some p := by
      obtain hb | hu := hmoves
      · exact (storagePlace_of_banks (deliverAll_banks hb) a).trans hp
      · exact storagePlace_of_fixed (fixed_of_unbanked hu hp) hp
    rw [busRead_of_place hp', busRead_of_place hp,
      atPlace_deliverAll h (hmoves.imp_right fun hu => fixed_of_unbanked hu hp) hne]

/-- Settles O52: the next state's bus is what the instruction's stores make of it (`exec_effect`), and a store leaves every
byte it does not name. -/
theorem memoryFrameOfEveryInstruction : Obligations.MemoryFrameOfEveryInstruction := by
  intro i s t h ht
  obtain ⟨ws, hws, -, hbus, -⟩ := exec_effect i s t ht
  have stores : ∀ {P : Word → Prop}, (∀ b ∈ storesAt i s, P b) ↔ ∀ w ∈ ws, P w.1 := by
    simp [← hws]
  refine ⟨fun hb a ha => ?_, fun a hu ha => ?_⟩
  · rw [stores] at hb ha
    rw [hbus.busRead, busRead_deliverAll h (Or.inl hb) ha]
  · rw [stores] at ha
    rw [hbus.busRead, busRead_deliverAll h (Or.inr hu) ha]

end Sys2Proof.Machine
end

section
/-! The image, the scheme and the serial output over a step (R44, R123). -/

namespace Sys2Proof.Machine

/-! ## The serial output -/

/-- A write appends at most one byte to the serial output (R451). -/
theorem deliver_serialOut (s : State) (a : Word) (v : Byte) :
    ∃ out, (s.deliver a v).serialOut = s.serialOut ++ out ∧ out.length ≤ 1 := by
  have keep : ∀ t : State, t.serialOut = s.serialOut → ∃ out, t.serialOut = s.serialOut ++ out ∧ out.length ≤ 1 :=
    fun t ht => ⟨[], by simp [ht], by simp⟩
  unfold State.deliver
  cases decodeAddr a
  case io =>
    show ∃ out, (s.ioWrite a v).serialOut = _ ∧ _
    unfold State.ioWrite
    split
    · exact keep _ rfl
    · split
      · exact ⟨[s.sb], rfl, by simp⟩
      · exact keep _ rfl
  all_goals exact keep _ rfl

theorem deliverAll_serialOut (s : State) (ws : List (Word × Byte)) :
    ∃ out, (s.deliverAll ws).serialOut = s.serialOut ++ out ∧ out.length ≤ ws.length := by
  induction ws generalizing s with
  | nil => exact ⟨[], by simp, by simp⟩
  | cons w ws ih =>
    obtain ⟨out, hout, hlen⟩ := deliver_serialOut s w.1 w.2
    obtain ⟨out', hout', hlen'⟩ := ih (s.deliver w.1 w.2)
    refine ⟨out ++ out', ?_, ?_⟩
    · rw [deliverAll_cons, hout', hout, List.append_assoc]
    · simp only [List.length_append, List.length_cons]
      omega

theorem length_ite_le_two {c : Prop} [Decidable c] {xs ys : List Word} (hx : xs.length ≤ 2) (hy : ys.length ≤ 2) :
    (if c then xs else ys).length ≤ 2 := by
  split <;> assumption

/-- No instruction stores more than two bytes. -/
theorem storesAt_length_le (i : Instr) (s : State) : (storesAt i s).length ≤ 2 := by
  cases i
  case callNzA16 | callZA16 | callNcA16 | callCA16 | prefixCb =>
    exact length_ite_le_two (Nat.le_of_ble_eq_true rfl) (Nat.le_of_ble_eq_true rfl)
  all_goals exact Nat.le_of_ble_eq_true rfl

/-- Settles O56: a step changes cartridge and serial output only through its stores, of which there are at most two. -/
theorem imageKeptAndSerialOutputOnlyGrows : Obligations.ImageKeptAndSerialOutputOnlyGrows := by
  intro s t h
  obtain ⟨i, -, hexec⟩ := step_next.mp h
  obtain ⟨ws, hws, -, hbus, -⟩ := exec_effect i s t hexec
  obtain ⟨himg, hsch⟩ := deliverAll_image_scheme s ws
  obtain ⟨out, hout, hlen⟩ := deliverAll_serialOut s ws
  have htwo : ws.length ≤ 2 := by
    rw [← List.length_map (f := Prod.fst), hws]
    exact storesAt_length_le i s
  exact ⟨hbus.cart ▸ himg, hbus.cart ▸ hsch, out, hbus.serialOut.trans hout, hlen.trans htwo⟩

end Sys2Proof.Machine
end

section
/-! Noninterference: what no instruction reads. A relation of states that no register read and no bus read sees, and that
every update keeps, is kept by every step; the RAM-enable bit is one such relation (R109, R49). -/

namespace Sys2Proof.Machine

/-! ## Runs of two states that differ in something no instruction reads -/

/-- The two results are the same fault, or next states that `R` relates. -/
def RelResult (R : State → State → Prop) (x y : Result) : Prop :=
  match x, y with
  | .next t, .next t' => R t t'
  | .fault r, .fault r' => r = r'
  | .refused r, .refused r' => r = r'
  | _, _ => False

/-- States that `R` relates have the same registers and the same bus, and every update of the register file or of the bus
keeps them related. -/
structure Unobserved (R : State → State → Prop) : Prop where
  reg {s s'} : R s s' → ∀ r, s'.reg r = s.reg r
  f {s s'} : R s s' → s'.f = s.f
  sp {s s'} : R s s' → s'.sp = s.sp
  pc {s s'} : R s s' → s'.pc = s.pc
  busRead {s s'} : R s s' → ∀ a, s'.busRead a = s.busRead a
  windowOpen {s s'} : R s s' → ∀ a, s'.windowOpen a = s.windowOpen a
  setReg {s s'} : R s s' → ∀ r v, R (s.setReg r v) (s'.setReg r v)
  setF {s s'} : R s s' → ∀ v, R { s with f := v } { s' with f := v }
  setSp {s s'} : R s s' → ∀ v, R (s.setSp v) (s'.setSp v)
  goto {s s'} : R s s' → ∀ a m, R (s.goto a m) (s'.goto a m)
  deliver {s s'} : R s s' → ∀ a v, R (s.deliver a v) (s'.deliver a v)

section
variable {R : State → State → Prop} (hR : Unobserved R) {s s' : State}

/-! ### Operations -/

theorem relResult_reading {α : Type} {x x' : Except Fault α} {k k' : α → Result} (hx : x' = x)
    (hk : ∀ v, RelResult R (k v) (k' v)) : RelResult R (reading x k) (reading x' k') := by
  subst hx
  cases x' with
  | error r => exact rfl
  | ok v => exact hk v

/-- Two writes that fault alike or leave related states. -/
def RelWrite (R : State → State → Prop) (x y : Except Fault State) : Prop :=
  match x, y with
  | .ok t, .ok t' => R t t'
  | .error r, .error r' => r = r'
  | _, _ => False

theorem relResult_storing {x x' : Except Fault State} {k k' : State → Result} (hx : RelWrite R x x')
    (hk : ∀ t t', R t t' → RelResult R (k t) (k' t')) : RelResult R (storing x k) (storing x' k') := by
  cases x with
  | error r =>
    cases x' with
    | error r' => exact hx
    | ok t' => exact hx.elim
  | ok t =>
    cases x' with
    | error r' => exact hx.elim
    | ok t' => exact hk t t' hx

include hR

namespace Unobserved

theorem a (h : R s s') : s'.a = s.a := hR.reg h .a

theorem flags (h : R s s') : s'.flags = s.flags := congrArg Flags.ofByte (hR.f h)

theorem bc (h : R s s') : s'.bc = s.bc := congrArg₂ join (hR.reg h .b) (hR.reg h .c)

theorem de (h : R s s') : s'.de = s.de := congrArg₂ join (hR.reg h .d) (hR.reg h .e)

theorem hl (h : R s s') : s'.hl = s.hl := congrArg₂ join (hR.reg h .h) (hR.reg h .l)

theorem pair (h : R s s') (rr : Pair) : s'.pair rr = s.pair rr := by
  cases rr with
  | bc => exact hR.bc h
  | de => exact hR.de h
  | hl => exact hR.hl h
  | sp => exact hR.sp h

theorem stackPair (h : R s s') (qq : StackPair) : s'.stackPair qq = s.stackPair qq := by
  cases qq with
  | bc => exact hR.bc h
  | de => exact hR.de h
  | hl => exact hR.hl h
  | af => exact congrArg₂ join (hR.a h) (hR.f h)

theorem cond (h : R s s') (cc : Cond) : s'.cond cc = s.cond cc := by
  unfold State.cond
  rw [hR.flags h]

theorem setFlags (h : R s s') (fl : Flags) : R (s.setFlags fl) (s'.setFlags fl) := hR.setF h fl.toByte

theorem setBc (h : R s s') (v : Word) : R (s.setBc v) (s'.setBc v) :=
  hR.setReg (hR.setReg h .b (hiByte v)) .c (loByte v)

theorem setDe (h : R s s') (v : Word) : R (s.setDe v) (s'.setDe v) :=
  hR.setReg (hR.setReg h .d (hiByte v)) .e (loByte v)

theorem setHl (h : R s s') (v : Word) : R (s.setHl v) (s'.setHl v) :=
  hR.setReg (hR.setReg h .h (hiByte v)) .l (loByte v)

theorem setPair (h : R s s') (rr : Pair) (v : Word) : R (s.setPair rr v) (s'.setPair rr v) := by
  cases rr with
  | bc => exact hR.setBc h v
  | de => exact hR.setDe h v
  | hl => exact hR.setHl h v
  | sp => exact hR.setSp h v

theorem setStackPair (h : R s s') (qq : StackPair) (v : Word) : R (s.setStackPair qq v) (s'.setStackPair qq v) := by
  cases qq with
  | bc => exact hR.setBc h v
  | de => exact hR.setDe h v
  | hl => exact hR.setHl h v
  | af => exact hR.setF (hR.setReg h .a (hiByte v)) (loByte v &&& 0xF0)

theorem retire (h : R s s') (len : Word) (m : Cycles) : R (s.retire len m) (s'.retire len m) := by
  show R (s.goto (s.pc + len) m) (s'.goto (s'.pc + len) m)
  rw [hR.pc h]
  exact hR.goto h _ m

theorem applyAlu (h : R s s') (op : AluOp) (v : Byte) : R (s.applyAlu op v) (s'.applyAlu op v) := by
  unfold State.applyAlu
  rw [hR.a h, hR.flags h]
  dsimp only
  split
  · exact hR.setFlags (hR.setReg h _ _) _
  · exact hR.setFlags h _

theorem busWrite (h : R s s') (a : Word) (v : Byte) : RelWrite R (s.busWrite a v) (s'.busWrite a v) := by
  unfold State.busWrite
  rw [hR.windowOpen h]
  split
  · exact hR.deliver h a v
  · exact rfl

theorem busWrite16 (h : R s s') (a v : Word) : RelWrite R (s.busWrite16 a v) (s'.busWrite16 a v) := by
  have hlo := hR.busWrite h a (loByte v)
  unfold State.busWrite16
  cases hs : s.busWrite a (loByte v) <;> cases hs' : s'.busWrite a (loByte v) <;> rw [hs, hs'] at hlo
  case error.error => exact hlo
  case ok.ok => exact hR.busWrite hlo (a + 1) (hiByte v)
  all_goals exact hlo.elim

theorem push16 (h : R s s') (v : Word) : RelWrite R (s.push16 v) (s'.push16 v) := by
  unfold State.push16
  rw [hR.sp h]
  exact hR.busWrite16 (hR.setSp h _) _ v

theorem busRead16 (h : R s s') (a : Word) : s'.busRead16 a = s.busRead16 a := by
  unfold State.busRead16
  rw [hR.busRead h, hR.busRead h]

theorem pop16 (h : R s s') : s'.pop16 = s.pop16 := by
  unfold State.pop16
  rw [hR.sp h, hR.busRead16 h]

theorem readOperand (h : R s s') (o : Operand8) : s'.readOperand o = s.readOperand o := by
  cases o with
  | reg r => exact congrArg Except.ok (hR.reg h r)
  | indHl => simp only [State.readOperand, hR.hl h, hR.busRead h]

theorem writeOperand (h : R s s') (o : Operand8) (v : Byte) : RelWrite R (s.writeOperand o v) (s'.writeOperand o v) := by
  cases o with
  | reg r => exact hR.setReg h r v
  | indHl =>
    simp only [State.writeOperand, hR.hl h]
    exact hR.busWrite h s.hl v

/-! ### The shared meanings -/

theorem ldRegReg (h : R s s') (dst src : Reg8) : RelResult R (ldRegReg dst src s) (ldRegReg dst src s') := by
  unfold Machine.ldRegReg
  rw [hR.reg h]
  exact hR.retire (hR.setReg h _ _) 1 1

theorem ldRegImm (h : R s s') (dst : Reg8) (d8 : Byte) : RelResult R (ldRegImm dst d8 s) (ldRegImm dst d8 s') :=
  hR.retire (hR.setReg h dst d8) 2 2

theorem ldRegFrom (h : R s s') (dst : Reg8) {x x' : Word} (hx : x' = x) (len : Word) (m : Cycles) :
    RelResult R (ldRegFrom dst x len m s) (ldRegFrom dst x' len m s') :=
  relResult_reading (hx ▸ hR.busRead h x') fun v => hR.retire (hR.setReg h dst v) len m

theorem ldTo (h : R s s') {x x' : Word} {v v' : Byte} (hx : x' = x) (hv : v' = v) (len : Word) (m : Cycles) :
    RelResult R (ldTo x v len m s) (ldTo x' v' len m s') := by
  subst hx hv
  exact relResult_storing (hR.busWrite h x' v') fun _ _ ht => hR.retire ht len m

theorem ldTo16 (h : R s s') (x : Word) {v v' : Word} (hv : v' = v) (len : Word) (m : Cycles) :
    RelResult R (ldTo16 x v len m s) (ldTo16 x v' len m s') := by
  subst hv
  exact relResult_storing (hR.busWrite16 h x v') fun _ _ ht => hR.retire ht len m

theorem ldToHlStep (h : R s s') (step : Word) : RelResult R (ldToHlStep step s) (ldToHlStep step s') := by
  unfold Machine.ldToHlStep
  rw [hR.hl h, hR.a h]
  exact relResult_storing (hR.busWrite h s.hl s.a) fun _ _ ht => hR.retire (hR.setHl ht _) 1 2

theorem ldFromHlStep (h : R s s') (step : Word) : RelResult R (ldFromHlStep step s) (ldFromHlStep step s') := by
  unfold Machine.ldFromHlStep
  rw [hR.hl h]
  exact relResult_reading (hR.busRead h s.hl) fun v => hR.retire (hR.setHl (hR.setReg h .a v) _) 1 2

theorem ldPairImm (h : R s s') (rr : Pair) (d16 : Word) : RelResult R (ldPairImm rr d16 s) (ldPairImm rr d16 s') :=
  hR.retire (hR.setPair h rr d16) 3 3

theorem ldSpFromHl (h : R s s') : RelResult R (ldSpFromHl s) (ldSpFromHl s') := by
  unfold Machine.ldSpFromHl
  rw [hR.hl h]
  exact hR.retire (hR.setSp h s.hl) 1 2

theorem pushPair (h : R s s') (qq : StackPair) : RelResult R (pushPair qq s) (pushPair qq s') := by
  unfold Machine.pushPair
  rw [hR.stackPair h]
  exact relResult_storing (hR.push16 h _) fun _ _ ht => hR.retire ht 1 4

theorem popPair (h : R s s') (qq : StackPair) : RelResult R (popPair qq s) (popPair qq s') := by
  unfold Machine.popPair
  rw [hR.sp h]
  exact relResult_reading (hR.pop16 h) fun v => hR.retire (hR.setStackPair (hR.setSp h _) qq v) 1 3

theorem aluOperand (h : R s s') (op : AluOp) (o : Operand8) : RelResult R (aluOperand op o s) (aluOperand op o s') :=
  relResult_reading (hR.readOperand h o) fun v => hR.retire (hR.applyAlu h op v) 1 _

theorem aluImm (h : R s s') (op : AluOp) (d8 : Byte) : RelResult R (aluImm op d8 s) (aluImm op d8 s') :=
  hR.retire (hR.applyAlu h op d8) 2 2

theorem incOperand (h : R s s') (o : Operand8) : RelResult R (incOperand o s) (incOperand o s') := by
  unfold Machine.incOperand
  rw [hR.flags h]
  exact relResult_reading (hR.readOperand h o) fun _ =>
    relResult_storing (hR.writeOperand h o _) fun _ _ ht => hR.retire (hR.setFlags ht _) 1 _

theorem decOperand (h : R s s') (o : Operand8) : RelResult R (decOperand o s) (decOperand o s') := by
  unfold Machine.decOperand
  rw [hR.flags h]
  exact relResult_reading (hR.readOperand h o) fun _ =>
    relResult_storing (hR.writeOperand h o _) fun _ _ ht => hR.retire (hR.setFlags ht _) 1 _

theorem addHlPair (h : R s s') (rr : Pair) : RelResult R (addHlPair rr s) (addHlPair rr s') := by
  unfold Machine.addHlPair
  rw [hR.hl h, hR.pair h, hR.flags h]
  exact hR.retire (hR.setFlags (hR.setHl h _) _) 1 2

theorem addToPair (h : R s s') (rr : Pair) (step : Word) : RelResult R (addToPair rr step s) (addToPair rr step s') := by
  unfold Machine.addToPair
  rw [hR.pair h]
  exact hR.retire (hR.setPair h rr _) 1 2

theorem adjustSp (h : R s s') (e8 : Byte) : RelResult R (adjustSp e8 s) (adjustSp e8 s') := by
  unfold Machine.adjustSp
  rw [hR.sp h]
  exact hR.retire (hR.setFlags (hR.setSp h _) _) 2 4

theorem ldHlAdjusted (h : R s s') (e8 : Byte) : RelResult R (ldHlAdjusted e8 s) (ldHlAdjusted e8 s') := by
  unfold Machine.ldHlAdjusted
  rw [hR.sp h]
  exact hR.retire (hR.setFlags (hR.setHl h _) _) 2 3

theorem accRotate (h : R s s') (k : AccRotate) : RelResult R (accRotate k s) (accRotate k s') := by
  unfold Machine.accRotate
  rw [hR.a h, hR.flags h]
  exact hR.retire (hR.setFlags (hR.setReg h .a _) _) 1 1

theorem decimalAdjust (h : R s s') : RelResult R (decimalAdjust s) (decimalAdjust s') := by
  unfold Machine.decimalAdjust
  rw [hR.a h, hR.flags h]
  exact hR.retire (hR.setFlags (hR.setReg h .a _) _) 1 1

theorem complementA (h : R s s') : RelResult R (complementA s) (complementA s') := by
  unfold Machine.complementA
  rw [hR.a h, hR.flags h]
  exact hR.retire (hR.setFlags (hR.setReg h .a _) _) 1 1

theorem setCarry (h : R s s') : RelResult R (setCarry s) (setCarry s') := by
  unfold Machine.setCarry
  rw [hR.flags h]
  exact hR.retire (hR.setFlags h _) 1 1

theorem complementCarry (h : R s s') : RelResult R (complementCarry s) (complementCarry s') := by
  unfold Machine.complementCarry
  rw [hR.flags h]
  exact hR.retire (hR.setFlags h _) 1 1

theorem jumpAbs (h : R s s') (a16 : Word) : RelResult R (jumpAbs a16 s) (jumpAbs a16 s') := hR.goto h a16 4

theorem jumpAbsCc (h : R s s') (cc : Cond) (a16 : Word) : RelResult R (jumpAbsCc cc a16 s) (jumpAbsCc cc a16 s') := by
  unfold Machine.jumpAbsCc
  rw [hR.cond h]
  dsimp only
  split
  · exact hR.goto h a16 _
  · exact hR.retire h 3 _

theorem jumpHl (h : R s s') : RelResult R (jumpHl s) (jumpHl s') := by
  unfold Machine.jumpHl
  rw [hR.hl h]
  exact hR.goto h s.hl 1

theorem jumpRel (h : R s s') (e8 : Byte) : RelResult R (jumpRel e8 s) (jumpRel e8 s') := by
  unfold Machine.jumpRel
  rw [hR.pc h]
  exact hR.goto h _ 3

theorem jumpRelCc (h : R s s') (cc : Cond) (e8 : Byte) : RelResult R (jumpRelCc cc e8 s) (jumpRelCc cc e8 s') := by
  unfold Machine.jumpRelCc
  rw [hR.cond h, hR.pc h]
  dsimp only
  split
  · exact hR.goto h _ _
  · exact hR.retire h 2 _

theorem callTo (h : R s s') (target len : Word) (m : Cycles) : RelResult R (callTo target len m s) (callTo target len m s') := by
  unfold Machine.callTo
  rw [hR.pc h]
  exact relResult_storing (hR.push16 h _) fun _ _ ht => hR.goto ht target m

theorem callAbsCc (h : R s s') (cc : Cond) (a16 : Word) : RelResult R (callAbsCc cc a16 s) (callAbsCc cc a16 s') := by
  unfold Machine.callAbsCc
  rw [hR.cond h]
  dsimp only
  split
  · exact hR.callTo h a16 3 _
  · exact hR.retire h 3 _

theorem returnTo (h : R s s') (m : Cycles) : RelResult R (returnTo m s) (returnTo m s') := by
  unfold Machine.returnTo
  rw [hR.sp h]
  exact relResult_reading (hR.pop16 h) fun v => hR.goto (hR.setSp h _) v m

theorem returnCc (h : R s s') (cc : Cond) : RelResult R (returnCc cc s) (returnCc cc s') := by
  unfold Machine.returnCc
  rw [hR.cond h]
  dsimp only
  split
  · exact hR.returnTo h _
  · exact hR.retire h 1 _

theorem idle (h : R s s') : RelResult R (idle s) (idle s') := hR.retire h 1 1

theorem cbShift (h : R s s') (op : ShiftOp) (o : Operand8) : RelResult R (cbShift op o s) (cbShift op o s') := by
  unfold Machine.cbShift
  rw [hR.flags h]
  exact relResult_reading (hR.readOperand h o) fun _ =>
    relResult_storing (hR.writeOperand h o _) fun _ _ ht => hR.retire (hR.setFlags ht _) 2 _

theorem cbBit (h : R s s') (n : BitVec 3) (o : Operand8) : RelResult R (cbBit n o s) (cbBit n o s') := by
  unfold Machine.cbBit
  rw [hR.flags h]
  exact relResult_reading (hR.readOperand h o) fun _ => hR.retire (hR.setFlags h _) 2 _

theorem cbRes (h : R s s') (n : BitVec 3) (o : Operand8) : RelResult R (cbRes n o s) (cbRes n o s') :=
  relResult_reading (hR.readOperand h o) fun _ =>
    relResult_storing (hR.writeOperand h o _) fun _ _ ht => hR.retire ht 2 _

theorem cbSet (h : R s s') (n : BitVec 3) (o : Operand8) : RelResult R (cbSet n o s) (cbSet n o s') :=
  relResult_reading (hR.readOperand h o) fun _ =>
    relResult_storing (hR.writeOperand h o _) fun _ _ ht => hR.retire ht 2 _

theorem secondary (h : R s s') (n : Byte) : RelResult R (secondary n s) (secondary n s') := by
  unfold Machine.secondary
  dsimp only
  split
  · exact hR.cbShift h _ _
  · exact hR.cbBit h _ _
  · exact hR.cbRes h _ _
  · exact hR.cbSet h _ _

/-! ### The decoded instructions, quadrant by quadrant (R154) -/

theorem quadrant0 (h : R s s') (op b1 b2 : Byte) : RelResult R (exec (quadrant0 op b1 b2) s) (exec (quadrant0 op b1 b2) s') := by
  unfold Sys2Proof.quadrant0
  dsimp only
  split
  · split
    · exact hR.idle h
    · exact hR.ldTo16 h _ (hR.sp h) 3 5
    · exact hR.idle h
    · exact hR.jumpRel h b1
    · rw [exec_jrCc, exec_jrCc]; exact hR.jumpRelCc h _ b1
  · split
    · rw [exec_ldPair, exec_ldPair]; exact hR.ldPairImm h _ _
    · rw [exec_addHl, exec_addHl]; exact hR.addHlPair h _
  · split
    · exact hR.ldTo h (hR.bc h) (hR.a h) 1 2
    · exact hR.ldRegFrom h .a (hR.bc h) 1 2
    · exact hR.ldTo h (hR.de h) (hR.a h) 1 2
    · exact hR.ldRegFrom h .a (hR.de h) 1 2
    · exact hR.ldToHlStep h 1
    · exact hR.ldFromHlStep h 1
    · exact hR.ldToHlStep h (-1)
    · exact hR.ldFromHlStep h (-1)
  · split
    · rw [exec_incPair, exec_incPair]; exact hR.addToPair h _ 1
    · rw [exec_decPair, exec_decPair]; exact hR.addToPair h _ (-1)
  · rw [exec_inc, exec_inc]; exact hR.incOperand h _
  · rw [exec_dec, exec_dec]; exact hR.decOperand h _
  · cases operandField (fieldY op) with
    | reg dst =>
      simp only [Form.ldImm, exec_ldRegImm]
      exact hR.ldRegImm h dst b1
    | indHl => exact hR.ldTo h (hR.hl h) rfl 2 3
  · split
    · exact hR.accRotate h .rlca
    · exact hR.accRotate h .rrca
    · exact hR.accRotate h .rla
    · exact hR.accRotate h .rra
    · exact hR.decimalAdjust h
    · exact hR.complementA h
    · exact hR.setCarry h
    · exact hR.complementCarry h

theorem quadrant1 (h : R s s') (op : Byte) : RelResult R (exec (quadrant1 op) s) (exec (quadrant1 op) s') := by
  unfold Sys2Proof.quadrant1
  split
  · rw [exec_ldReg, exec_ldReg]; exact hR.ldRegReg h _ _
  · rw [exec_ldFromHl, exec_ldFromHl]; exact hR.ldRegFrom h _ (hR.hl h) 1 2
  · rw [exec_ldToHl, exec_ldToHl]; exact hR.ldTo h (hR.hl h) (hR.reg h _) 1 2
  · exact hR.idle h

theorem undef (h : R s s') (u : UndefSlot) : RelResult R (exec (Form.undef u) s) (exec (Form.undef u) s') := by
  rw [exec_undef, exec_undef]
  exact hR.idle h

theorem quadrant3 (h : R s s') (op b1 b2 : Byte) : RelResult R (exec (quadrant3 op b1 b2) s) (exec (quadrant3 op b1 b2) s') := by
  unfold Sys2Proof.quadrant3
  dsimp only
  split
  · split
    · exact hR.ldTo h rfl (hR.a h) 2 3
    · exact hR.adjustSp h b1
    · exact hR.ldRegFrom h .a rfl 2 3
    · exact hR.ldHlAdjusted h b1
    · rw [exec_retCc, exec_retCc]; exact hR.returnCc h _
  · split
    · rw [exec_pop, exec_pop]; exact hR.popPair h _
    · split
      · exact hR.returnTo h 4
      · exact hR.returnTo h 4
      · exact hR.jumpHl h
      · exact hR.ldSpFromHl h
  · split
    · exact hR.ldTo h (congrArg highPage (hR.reg h .c)) (hR.a h) 1 2
    · exact hR.ldTo h rfl (hR.a h) 3 4
    · exact hR.ldRegFrom h .a (congrArg highPage (hR.reg h .c)) 1 2
    · exact hR.ldRegFrom h .a rfl 3 4
    · rw [exec_jpCc, exec_jpCc]; exact hR.jumpAbsCc h _ _
  · split
    · exact hR.jumpAbs h _
    · exact hR.secondary h b1
    · exact hR.undef h .xD3
    · exact hR.undef h .xDB
    · exact hR.undef h .xE3
    · exact hR.undef h .xEB
    · exact hR.idle h
    · exact hR.idle h
  · split
    · exact hR.undef h .xE4
    · exact hR.undef h .xEC
    · exact hR.undef h .xF4
    · exact hR.undef h .xFC
    · rw [exec_callCc, exec_callCc]; exact hR.callAbsCc h _ _
  · split
    · rw [exec_push, exec_push]; exact hR.pushPair h _
    · split
      · exact hR.callTo h _ 3 6
      · exact hR.undef h .xDD
      · exact hR.undef h .xED
      · exact hR.undef h .xFD
  · rw [exec_aluImm, exec_aluImm]; exact hR.aluImm h _ b1
  · rw [exec_rst, exec_rst]; exact hR.callTo h _ 1 4

theorem extended (h : R s s') (n : Byte) : RelResult R (exec (decodeExtended n) s) (exec (decodeExtended n) s') := by
  unfold decodeExtended
  dsimp only
  split
  · rw [exec_shift, exec_shift]; exact hR.cbShift h _ _
  · rw [exec_bit, exec_bit]; exact hR.cbBit h _ _
  · rw [exec_res, exec_res]; exact hR.cbRes h _ _
  · rw [exec_set, exec_set]; exact hR.cbSet h _ _

theorem primary (h : R s s') (op b1 b2 : Byte) :
    RelResult R (exec (decodePrimary op b1 b2) s) (exec (decodePrimary op b1 b2) s') := by
  unfold decodePrimary
  split
  · exact hR.quadrant0 h op b1 b2
  · exact hR.quadrant1 h op
  · rw [exec_alu, exec_alu]; exact hR.aluOperand h _ _
  · exact hR.quadrant3 h op b1 b2

/-! ### A step -/

theorem bytesAt (h : R s s') (x : Word) (n : Nat) : s'.bytesAt x n = s.bytesAt x n := by
  induction n generalizing x with
  | zero => rfl
  | succ n ih => simp only [State.bytesAt, hR.busRead h, ih]

theorem fetchInstr (h : R s s') : s'.fetchInstr = s.fetchInstr := by
  simp only [State.fetchInstr, hR.pc h, hR.busRead h, hR.bytesAt h]

/-- Two related states step to the same fault or to related states: the step reads nothing `R` leaves open. -/
theorem step (h : R s s') : RelResult R (step s) (step s') := by
  unfold Machine.step
  rw [hR.fetchInstr h]
  cases hf : s.fetchInstr with
  | error r => exact rfl
  | ok i =>
    obtain ⟨op, bs, -, -, rfl⟩ := fetchInstr_ok.mp hf
    show RelResult R (exec (decodeInstr op _ _) s) (exec (decodeInstr op _ _) s')
    unfold decodeInstr
    split
    · exact hR.extended h _
    · exact hR.primary h op _ _

end Unobserved
end

/-! ## RAM enable -/

/-- A cartridge without what its RAM-enable bit holds. -/
def Cart.forgetRamEnable (ct : Cart) : Cart := { ct with ramEnable := false }

theorem forgetRamEnable_eq_mapCart (s : State) : s.forgetRamEnable = s.mapCart Cart.forgetRamEnable := rfl

/-- Every controller write does the same to the rest of the cartridge whatever RAM enable holds (R109). -/
theorem forgetRamEnable_writeFixed (ct : Cart) (a : Word) (v : Byte) :
    (ct.forgetRamEnable.writeFixed a v).forgetRamEnable = (ct.writeFixed a v).forgetRamEnable := by
  obtain ⟨img, scheme, romBank, ramBank, mode, ramEnable, eram⟩ := ct
  unfold Cart.writeFixed
  cases scheme with
  | noBanking => rfl
  | type1 => dsimp only [Cart.forgetRamEnable]; split <;> rfl

theorem forgetRamEnable_writeSwitch (ct : Cart) (a : Word) (v : Byte) :
    (ct.forgetRamEnable.writeSwitch a v).forgetRamEnable = (ct.writeSwitch a v).forgetRamEnable := by
  obtain ⟨img, scheme, romBank, ramBank, mode, ramEnable, eram⟩ := ct
  unfold Cart.writeSwitch Cart.writeBankHigh Cart.writeMode
  cases scheme with
  | noBanking => rfl
  | type1 =>
    dsimp only [Cart.forgetRamEnable]
    split
    · cases mode <;> rfl
    · split <;> rfl

theorem forgetRamEnable_writeRam (ct : Cart) (a : Word) (v : Byte) :
    (ct.forgetRamEnable.writeRam a v).forgetRamEnable = (ct.writeRam a v).forgetRamEnable := by
  obtain ⟨img, scheme, romBank, ramBank, mode, ramEnable, eram⟩ := ct
  cases scheme <;> rfl

theorem forgetRamEnable_mapCart {k : Cart → Cart} (hk : ∀ ct, (k ct.forgetRamEnable).forgetRamEnable = (k ct).forgetRamEnable)
    (s : State) : (s.forgetRamEnable.mapCart k).forgetRamEnable = (s.mapCart k).forgetRamEnable := by
  simp only [forgetRamEnable_eq_mapCart, State.mapCart, Option.map_map, Function.comp_def, hk]

theorem forgetRamEnable_deliver (s : State) (a : Word) (v : Byte) :
    (s.forgetRamEnable.deliver a v).forgetRamEnable = (s.deliver a v).forgetRamEnable := by
  have idem : ∀ t : State, t.forgetRamEnable.forgetRamEnable = t.forgetRamEnable := fun t => by
    simp [State.forgetRamEnable, Function.comp_def]
  unfold State.deliver
  cases decodeAddr a
  case romFixed => exact forgetRamEnable_mapCart (fun ct => forgetRamEnable_writeFixed ct a v) s
  case romSwitch => exact forgetRamEnable_mapCart (fun ct => forgetRamEnable_writeSwitch ct a v) s
  case extRam => exact forgetRamEnable_mapCart (fun ct => forgetRamEnable_writeRam ct a v) s
  case io =>
    have hio : s.forgetRamEnable.ioWrite a v = (s.ioWrite a v).forgetRamEnable := by
      unfold State.ioWrite
      split
      · rfl
      · split <;> rfl
    exact (congrArg State.forgetRamEnable hio).trans (idem _)
  case unmapped => exact idem s
  case ie => exact idem { s with ie := v }
  all_goals exact idem (s.setRam (storageIndex a) v)

theorem fromCart_forgetRamEnable {k : Cart → Except Fault Byte} (hk : ∀ ct, k ct.forgetRamEnable = k ct) (s : State) :
    s.forgetRamEnable.fromCart k = s.fromCart k := by
  rw [forgetRamEnable_eq_mapCart]
  cases hc : s.cart with
  | none => rw [fromCart_none hc, fromCart_none (by rw [mapCart_cart, hc]; rfl)]
  | some ct => rw [fromCart_some hc, fromCart_some (by rw [mapCart_cart, hc]; rfl), hk]

theorem busRead_forgetRamEnable (s : State) (a : Word) : s.forgetRamEnable.busRead a = s.busRead a := by
  unfold State.busRead
  cases decodeAddr a
  case romFixed => exact fromCart_forgetRamEnable (fun _ => rfl) s
  case romSwitch => exact fromCart_forgetRamEnable (fun _ => rfl) s
  case extRam => exact fromCart_forgetRamEnable (fun _ => rfl) s
  all_goals rfl

theorem windowOpen_forgetRamEnable (s : State) (a : Word) : s.forgetRamEnable.windowOpen a = s.windowOpen a := by
  simp [State.windowOpen, State.forgetRamEnable]

/-- Nothing reads the RAM-enable bit, and every update treats states alike that differ in it (R109, R49). -/
theorem ramEnable_unobserved : Unobserved fun s s' => s.forgetRamEnable = s'.forgetRamEnable where
  reg h r := by
    have forget : ∀ s : State, s.forgetRamEnable.reg r = s.reg r := fun s => by cases r <;> rfl
    rw [← forget, ← h, forget]
  f {s s'} h := show s'.forgetRamEnable.f = s.forgetRamEnable.f by rw [h]
  sp {s s'} h := show s'.forgetRamEnable.sp = s.forgetRamEnable.sp by rw [h]
  pc {s s'} h := show s'.forgetRamEnable.pc = s.forgetRamEnable.pc by rw [h]
  busRead h a := by rw [← busRead_forgetRamEnable, ← h, busRead_forgetRamEnable]
  windowOpen h a := by rw [← windowOpen_forgetRamEnable, ← h, windowOpen_forgetRamEnable]
  setReg {s s'} h r v := by
    have forget : ∀ s : State, (s.setReg r v).forgetRamEnable = s.forgetRamEnable.setReg r v := fun s => by cases r <;> rfl
    show (s.setReg r v).forgetRamEnable = (s'.setReg r v).forgetRamEnable
    rw [forget, forget, h]
  setF h v := congrArg (fun t : State => { t with f := v }) h
  setSp h v := congrArg (fun t : State => t.setSp v) h
  goto h a m := congrArg (fun t : State => t.goto a m) h
  deliver {s s'} h a v := by
    show (s.deliver a v).forgetRamEnable = (s'.deliver a v).forgetRamEnable
    rw [← forgetRamEnable_deliver, h, forgetRamEnable_deliver]

theorem mapNext_eq_of_relResult {g : State → State} {x y : Result} (h : RelResult (fun s s' => g s = g s') x y) :
    mapNext g x = mapNext g y := by
  cases x <;> cases y
  case next.next t t' => exact congrArg Host.Outcome.next h
  case fault.fault => exact congrArg Host.Outcome.fault h
  case refused.refused => exact congrArg Host.Outcome.refused h
  all_goals exact h.elim

/-- Settles O55: the states are related by `ramEnable_unobserved`, and a step keeps related states related. -/
theorem ramEnableAffectsNothingElse : Obligations.RamEnableAffectsNothingElse := fun _ _ h =>
  mapNext_eq_of_relResult (ramEnable_unobserved.step h)

end Sys2Proof.Machine
end

section
/-! The bus and the cartridge, region by region (spec/20_memory.md): 16-bit accesses, storage and devices, the absent
cartridge, both banking schemes, load and unload, and read after write. -/

namespace Sys2Proof.Machine

/-! ## 16-bit accesses (R73, R74) -/

theorem ofNat_eq_join (lo hi : Byte) : BitVec.ofNat 16 (hi.toNat * 256 + lo.toNat) = join hi lo := by
  rw [← toNat_join, BitVec.ofNat_toNat, BitVec.setWidth_eq]

theorem ofNat_eq_loByte (v : Word) : BitVec.ofNat 8 v.toNat = loByte v :=
  BitVec.eq_of_toNat_eq (by rw [BitVec.toNat_ofNat, toNat_loByte])

theorem ofNat_eq_hiByte (v : Word) : BitVec.ofNat 8 (v.toNat / 256) = hiByte v := by
  have := v.isLt
  apply BitVec.eq_of_toNat_eq
  rw [BitVec.toNat_ofNat, toNat_hiByte]
  omega

theorem readable_iff {s : State} {a : Word} : s.readable a = true ↔ ∃ v, s.busRead a = .ok v := by
  unfold State.readable
  cases s.busRead a <;> simp

/-- Settles O42: the two bytes of a word are its `loByte` and `hiByte`, and the first fault ends a 16-bit access. -/
theorem sixteenBitBusAccess : Obligations.SixteenBitBusAccess := by
  refine ⟨fun s a lo hi hlo hhi => ?_, fun s a r hr => ?_, fun s u a v hu => ?_, fun s a v r hr => ?_⟩
  · exact busRead16_ok.mpr ⟨lo, hi, hlo, hhi, ofNat_eq_join lo hi⟩
  · rw [readable_iff] at hr
    obtain hr | ⟨⟨lo, hlo⟩, hr⟩ := hr
    · exact busRead16_error.mpr (Or.inl hr)
    · exact busRead16_error.mpr (Or.inr ⟨lo, hlo, hr⟩)
  · rw [ofNat_eq_loByte] at hu
    rw [ofNat_eq_hiByte, State.busWrite16, hu]
  · rw [ofNat_eq_loByte] at hr
    rw [State.busWrite16, hr]

/-! ## Where a handler is found (R75, R115) -/

theorem windowOpen_iff {s : State} {a : Word} : s.windowOpen a = true ↔ s.cart ≠ none ∨ ¬ inCartWindow a := by
  rw [← isCart_decodeAddr, State.windowOpen]
  cases s.cart <;> simp

theorem busWrite_of_outside {a : Word} (h : ¬ inCartWindow a) (s : State) (v : Byte) : s.busWrite a v = .ok (s.deliver a v) :=
  busWrite_of_open (windowOpen_iff.mpr (Or.inr h)) v

theorem busWrite_of_cart {s : State} {ct : Cart} (h : s.cart = some ct) (a : Word) (v : Byte) :
    s.busWrite a v = .ok (s.deliver a v) :=
  busWrite_of_open (windowOpen_of_cart h a) v

/-- Outside the cartridge windows every read answers a byte. -/
theorem busRead_of_outside {a : Word} (h : ¬ inCartWindow a) (s : State) : ∃ v, s.busRead a = .ok v := by
  cases hp : s.storagePlace a with
  | none => exact ⟨_, busRead_zero h hp⟩
  | some p => exact ⟨_, busRead_of_place hp⟩

/-- Settles O38: without a cartridge the three windows have no handler, and every other address has one. -/
theorem noCartridgeFault : Obligations.NoCartridgeFault := by
  refine ⟨fun s a v hc => ⟨fun hw => ⟨busRead_noCart hc hw, ?_⟩, fun hw => ?_⟩,
    fun s a => ⟨windowOpen_iff, fun v ho => busWrite_of_open ho v⟩⟩
  · refine busWrite_of_closed (Bool.eq_false_iff.mpr fun ho => ?_) v
    exact (windowOpen_iff.mp ho).elim (· hc) (· hw)
  · obtain ⟨x, hx⟩ := busRead_of_outside hw s
    exact ⟨x, _, hx, busWrite_of_outside hw s v⟩

/-! ## Storage and devices (R79 to R88, R450, R451) -/

/-- The buffers of R42 read and store the byte at the address's index. -/
theorem ram_access {a : Word}
    (h : decodeAddr a = .vram ∨ decodeAddr a = .wram ∨ decodeAddr a = .mirror ∨ decodeAddr a = .oam ∨ decodeAddr a = .hram)
    (s : State) (v : Byte) :
    s.busRead a = .ok (s.ram.get (storageIndex a)) ∧ s.busWrite a v = .ok (s.setRam (storageIndex a) v) := by
  have hw : ¬ inCartWindow a := by
    rw [← isCart_decodeAddr]
    rcases h with h | h | h | h | h <;> simp [h, Region.isCart]
  rw [busWrite_of_outside hw, State.busRead, State.deliver]
  rcases h with h | h | h | h | h <;> rw [h] <;> exact ⟨rfl, rfl⟩

/-- Settles O37: each range is a region of the decoder (R94), and the region says what the access does. -/
theorem storageRegionsAndDevices : Obligations.StorageRegionsAndDevices := by
  intro s a v
  refine ⟨fun h => ?_, fun h => ?_, fun h => ?_, fun h => ?_, fun h => ?_⟩
  · have hd : decodeAddr a = .vram ∨ decodeAddr a = .wram ∨ decodeAddr a = .oam ∨ decodeAddr a = .hram :=
      h.imp decodeAddr_vram (Or.imp decodeAddr_wram (Or.imp decodeAddr_oam decodeAddr_hram))
    have hidx : storageIndex a = a.toNat := by
      unfold storageIndex
      rcases hd with hd | hd | hd | hd <;> rw [hd]
    have hacc := ram_access (by tauto) s v
    rwa [hidx] at hacc
  · have hd := decodeAddr_mirror h
    have hidx : storageIndex a = a.toNat - 0x2000 := by rw [storageIndex, hd]
    have hacc := ram_access (by tauto) s v
    rwa [hidx] at hacc
  all_goals have hw : ¬ inCartWindow a := by unfold inCartWindow; omega
  all_goals rw [busWrite_of_outside hw, State.busRead, State.deliver]
  · rw [decodeAddr_ie h]
    exact ⟨rfl, rfl⟩
  · rw [decodeAddr_unmapped h]
    exact ⟨rfl, rfl⟩
  · rw [decodeAddr_io h]
    have toNat_eq : ∀ w : Word, a.toNat = w.toNat ↔ a = w := fun w => BitVec.toNat_inj
    refine ⟨rfl, congrArg Except.ok ?_⟩
    have h1 := toNat_eq 0xFF01
    have h2 := toNat_eq 0xFF02
    simp only [State.ioWrite, ← h1, ← h2]
    rfl

/-! ## Writes to a loaded cartridge -/

theorem mapCart_some {s : State} {ct : Cart} (h : s.cart = some ct) (k : Cart → Cart) :
    s.mapCart k = { s with cart := some (k ct) } := by
  rw [State.mapCart, h, Option.map_some]

section
variable {s : State} {ct : Cart} {a : Word} (hc : s.cart = some ct)
include hc

theorem busWrite_romFixed (ha : a.toNat < 0x4000) (v : Byte) :
    s.busWrite a v = .ok { s with cart := some (ct.writeFixed a v) } := by
  rw [busWrite_of_cart hc, State.deliver, decodeAddr_romFixed ha]
  exact congrArg Except.ok (mapCart_some hc _)

theorem busWrite_romSwitch (ha : 0x4000 ≤ a.toNat ∧ a.toNat < 0x8000) (v : Byte) :
    s.busWrite a v = .ok { s with cart := some (ct.writeSwitch a v) } := by
  rw [busWrite_of_cart hc, State.deliver, decodeAddr_romSwitch ha]
  exact congrArg Except.ok (mapCart_some hc _)

theorem busWrite_extRam (ha : 0xA000 ≤ a.toNat ∧ a.toNat < 0xC000) (v : Byte) :
    s.busWrite a v = .ok { s with cart := some (ct.writeRam a v) } := by
  rw [busWrite_of_cart hc, State.deliver, decodeAddr_extRam ha]
  exact congrArg Except.ok (mapCart_some hc _)

/-- A state is what it is with its own cartridge put back. -/
theorem withCart_self : { s with cart := some ct } = s := by rw [← hc]

end

/-! ## The no-banking scheme (R103 to R106, R114) -/

/-- Settles O39: the no-banking controller reads at the address itself and no write changes it. -/
theorem noBankingScheme : Obligations.NoBankingScheme := by
  refine ⟨fun s ct a v hc hs => ⟨fun ha => ?_, fun ha => ?_⟩, fun img cyc i => ⟨fun hi policy => if_pos hi, fun hi => ?_⟩⟩
  · by_cases hfix : a.toNat < 0x4000
    · refine ⟨busRead_romFixed hc hfix, ?_⟩
      rw [busWrite_romFixed hc hfix, Cart.writeFixed, hs, withCart_self hc]
    · have hswi : 0x4000 ≤ a.toNat ∧ a.toNat < 0x8000 := ⟨by omega, ha⟩
      have hoff : ct.switchOffset a = a.toNat := by rw [Cart.switchOffset, hs]
      refine ⟨hoff ▸ busRead_romSwitch hc hswi, ?_⟩
      rw [busWrite_romSwitch hc hswi, Cart.writeSwitch, hs, withCart_self hc]
  · rw [busRead_extRam hc ha, busWrite_extRam hc ha, Cart.readRam, Cart.writeRam, hs, withCart_self hc]
    exact ⟨rfl, rfl⟩
  · have hout : ¬ i < img.size := by omega
    exact ⟨if_neg hout, if_neg hout, if_neg hout⟩

/-! ## The type-1 controller (R107 to R113) -/

theorem toNat_and_0x60 (x : BitVec 7) : (x &&& 0x60).toNat = x.toNat / 32 * 32 := by
  revert x; decide

theorem toNat_and_0x1F (x : BitVec 7) : (x &&& 0x1F).toNat = x.toNat % 32 := by
  revert x; decide

theorem toNat_extractLow (v : Byte) (n : Nat) : (v.extractLsb' 0 n).toNat = v.toNat % 2 ^ n := by
  rw [BitVec.extractLsb'_toNat, Nat.shiftRight_zero]

/-- Two upper bits over five lower ones, as a number. -/
theorem or_eq_add {hi lo : Nat} (h : lo < 32) : hi * 32 ||| lo = hi * 32 + lo := by
  rw [← Nat.shiftLeft_eq hi 5, Nat.shiftLeft_add_eq_or_of_lt h]

/-- Bits 4..0 of the ROM bank from the low five bits written, 0 taken as 1 (R110). -/
theorem writeRomBankLow_romBank (ct : Cart) (v : Byte) :
    (ct.writeRomBankLow v).romBank.toNat = ct.romBank.toNat / 32 * 32 + (if v.toNat % 32 = 0 then 1 else v.toNat % 32) := by
  have hzero : v.extractLsb' 0 5 = 0 ↔ v.toNat % 32 = 0 := by
    rw [← BitVec.toNat_inj, toNat_extractLow]; rfl
  have key : ∀ low : BitVec 5,
      ((ct.romBank &&& 0x60) ||| low.setWidth 7).toNat = ct.romBank.toNat / 32 * 32 + low.toNat := fun low => by
    have hlow := low.isLt
    rw [BitVec.toNat_or, toNat_and_0x60, BitVec.toNat_setWidth, Nat.mod_eq_of_lt (by omega), or_eq_add hlow]
  unfold Cart.writeRomBankLow
  dsimp only
  rw [key]
  by_cases h : v.toNat % 32 = 0
  · rw [if_pos h, if_pos (hzero.mpr h)]; rfl
  · rw [if_neg h, if_neg (mt hzero.mp h), toNat_extractLow]; rfl

/-- Bits 6..5 of the ROM bank from the low two bits written, in mode 0 (R111). -/
theorem writeBankHigh_romBank {ct : Cart} (hm : ct.mode = .largeRom) (v : Byte) :
    (ct.writeBankHigh v).romBank.toNat = v.toNat % 4 * 32 + ct.romBank.toNat % 32 := by
  have hhigh : ((v.extractLsb' 0 2).setWidth 7 <<< 5).toNat = v.toNat % 4 * 32 := by
    rw [BitVec.toNat_shiftLeft, BitVec.toNat_setWidth, toNat_extractLow, Nat.shiftLeft_eq]
    omega
  rw [Cart.writeBankHigh, hm]
  dsimp only
  rw [BitVec.toNat_or, toNat_and_0x1F, hhigh, Nat.or_comm, or_eq_add (Nat.mod_lt _ (by decide))]

section
variable {ct : Cart} (hs : ct.scheme = .type1)
include hs

theorem writeFixed_ramEnable {a : Word} (ha : a.toNat < 0x2000) (v : Byte) :
    ct.writeFixed a v = { ct with ramEnable := decide (v.toNat % 16 = 0xA) } := by
  have hen : (v.extractLsb' 0 4 == 0xA) = decide (v.toNat % 16 = 0xA) := by
    rw [Bool.eq_iff_iff, beq_iff_eq, decide_eq_true_iff, ← BitVec.toNat_inj, toNat_extractLow]
    rfl
  have hreg : ct.writeFixed a v = ct.writeRamEnable v := by
    rw [Cart.writeFixed, hs]
    exact if_pos ha
  rw [hreg, Cart.writeRamEnable, hen]

theorem writeFixed_romBank {a : Word} (ha : 0x2000 ≤ a.toNat) (v : Byte) : ct.writeFixed a v = ct.writeRomBankLow v := by
  rw [Cart.writeFixed, hs]
  exact if_neg (by omega)

theorem writeSwitch_bankHigh {a : Word} (ha : a.toNat < 0x6000) (v : Byte) : ct.writeSwitch a v = ct.writeBankHigh v := by
  rw [Cart.writeSwitch, hs]
  exact if_pos ha

theorem writeSwitch_mode {a : Word} (ha : 0x6000 ≤ a.toNat) (v : Byte) : ct.writeSwitch a v = ct.writeMode v := by
  rw [Cart.writeSwitch, hs]
  exact if_neg (by omega)

theorem switchOffset_type1 (a : Word) : ct.switchOffset a = ct.romBank.toNat * 0x4000 + (a.toNat - 0x4000) := by
  rw [Cart.switchOffset, hs]

end

/-- The mode is bit 0 of the byte written; mode 0 forces RAM bank 0 (R112). -/
theorem writeMode_eq (ct : Cart) (v : Byte) :
    ct.writeMode v = if v.toNat % 2 = 1 then { ct with mode := .largeRam } else { ct with mode := .largeRom, ramBank := 0 } := by
  have hbit : v.getLsbD 0 = true ↔ v.toNat % 2 = 1 := by
    rw [BitVec.getLsbD, Nat.testBit_eq_decide_div_mod_eq, decide_eq_true_eq, pow_zero, Nat.div_one]
  unfold Cart.writeMode
  simp only [hbit]

/-- Settles O40: each range is one of the controller's registers or windows, and the register takes the bits written. -/
theorem type1Controller : Obligations.Type1Controller := by
  intro s ct a v hc hs
  refine ⟨fun ha => busRead_romFixed hc ha, fun ha => ?_, fun ha => ?_, fun ha => ?_, fun ha hm => ?_, fun ha hm => ?_,
    fun ha => ?_, fun ha => ?_⟩
  · rw [busRead_romSwitch hc ha, switchOffset_type1 hs]
  · rw [busWrite_romFixed hc (by omega), writeFixed_ramEnable hs ha]
  · refine ⟨_, writeRomBankLow_romBank ct v, ?_⟩
    rw [busWrite_romFixed hc ha.2, writeFixed_romBank hs ha.1]
    rfl
  · refine ⟨_, writeBankHigh_romBank hm v, ?_⟩
    rw [busWrite_romSwitch hc (by omega), writeSwitch_bankHigh hs ha.2, Cart.writeBankHigh, hm]
  · refine ⟨_, toNat_extractLow v 2, ?_⟩
    rw [busWrite_romSwitch hc (by omega), writeSwitch_bankHigh hs ha.2, Cart.writeBankHigh, hm]
  · rw [busWrite_romSwitch hc (by omega), writeSwitch_mode hs ha.1, writeMode_eq]
  · rw [busRead_extRam hc ha, busWrite_extRam hc ha, Cart.readRam, Cart.writeRam, hs]
    exact ⟨rfl, rfl⟩

/-! ## A bank switch at work (R117, R489) -/

/-- A one-byte instruction is fetched by the read of its opcode alone (R150, R167). -/
theorem fetchInstr_oneByte {s : State} {op : Byte} (hop : s.busRead s.pc = .ok op) (hlen : instrLength op = 1) :
    s.fetchInstr = .ok (decodeInstr op 0 0) :=
  fetchInstr_ok.mpr ⟨op, [], hop, by rw [hlen]; rfl, rfl⟩

/-- Settles O41: the store leaves the cartridge with the new bank register, and every later read goes through it. -/
theorem bankSwitchIsSeenByTheNextAccess : Obligations.BankSwitchIsSeenByTheNextAccess := by
  intro s t ct w a hc hs hlo hhi ht
  obtain ⟨u, hu, hnext⟩ := storing_next.mp (show ldTo w s.a 3 4 s = .next t from ht)
  rw [busWrite_romFixed hc hhi, writeFixed_romBank hs hlo] at hu
  obtain rfl := Except.ok.inj hu
  obtain rfl := Host.Outcome.next.inj hnext
  refine ⟨fun ha1 ha2 => ?_, fun ha => ?_, rfl, fun op hop hlen => ?_⟩
  · rw [busRead_romSwitch (ct := ct.writeRomBankLow s.a) rfl ⟨ha1, ha2⟩, switchOffset_type1 (ct := ct.writeRomBankLow s.a) hs,
      writeRomBankLow_romBank]
    rfl
  · rw [busRead_romFixed (ct := ct.writeRomBankLow s.a) rfl ha, busRead_romFixed hc ha]
    rfl
  · rw [step, fetchInstr_oneByte hop hlen]

/-! ## Load and unload (R101, R102, R483) -/

theorem byte_ofBytes (bytes : List Byte) {i : Nat} (hi : i < bytes.length) :
    (Image.ofBytes bytes).cells.get i = bytes.getD i 0 := by
  rw [Image.ofBytes, Memory.get_setList rfl, if_pos (by omega), Nat.sub_zero]

theorem selectScheme_ofBytes (bytes : List Byte) :
    selectScheme (Image.ofBytes bytes) = .type1 ↔
      0x147 < bytes.length ∧ (bytes.getD 0x147 0 = 0x01 ∨ bytes.getD 0x147 0 = 0x02 ∨ bytes.getD 0x147 0 = 0x03) := by
  rw [selectScheme, ite_eq_left_iff]
  simp only [reduceCtorEq, imp_false, not_not]
  exact and_congr_right fun hlen => by rw [byte_ofBytes bytes hlen]

/-- Settles O43: `Cart.ofImage` of the bytes, whatever was loaded before. -/
theorem loadAndUnloadCartridge : Obligations.LoadAndUnloadCartridge := by
  refine ⟨fun s bytes er => ⟨_, rfl, rfl, fun i hi => byte_ofBytes bytes hi, selectScheme_ofBytes bytes, rfl, rfl, rfl, rfl, ?_⟩,
    fun _ _ _ _ _ => rfl, fun _ => rfl, fun _ _ => rfl⟩
  intro hs
  show (match selectScheme (Image.ofBytes bytes) with | .noBanking => [] | .type1 => er) = er
  rw [show selectScheme (Image.ofBytes bytes) = .type1 from hs]

/-! ## Read after write (R82, R90, R120) -/

/-- No storage byte lies in a ROM window. -/
theorem sparesBanks_of_place {s : State} {a : Word} {p : Place} (h : s.storagePlace a = some p) : s.sparesBanks a := by
  have hr := covers_decodeAddr a
  unfold State.storagePlace at h
  refine Or.inl ?_
  cases hd : decodeAddr a <;> rw [hd] at h hr <;> simp only [Region.covers] at hr
  case romFixed => cases h
  case romSwitch => cases h
  all_goals omega

/-- Settles O53: the write sets the byte at its place (`atPlace_deliver`), and a read answers the byte at its place. -/
theorem storageReadsBackWhatWasWritten : Obligations.StorageReadsBackWhatWasWritten := by
  intro s a v p h hp
  have hbanks : (s.deliver a v).banks = s.banks := deliver_banks (sparesBanks_of_place hp) v
  have hplace : ∀ b, (s.deliver a v).storagePlace b = s.storagePlace b := storagePlace_of_banks hbanks
  have hread : ∀ b q, s.storagePlace b = some q →
      (s.deliver a v).busRead b = .ok (if p = q then v else s.atPlace q) := fun b q hq => by
    rw [busRead_of_place ((hplace b).trans hq), atPlace_deliver h, hp]
    simp only [Option.some.injEq]
  refine ⟨s.deliver a v, busWrite_of_open (windowOpen_of_busRead (busRead_of_place hp)) v, hplace, fun b hb => ?_,
    fun b hb => ?_, ?_⟩
  · rw [hread b p hb, if_pos rfl]
  · cases hq : s.storagePlace b with
    | none => exact busRead_of_banks hbanks hq
    | some q =>
      have hne : p ≠ q := fun heq => hb (heq ▸ hq)
      rw [hread b q hq, if_neg hne, busRead_of_place hq]
  · simp [State.bc, State.de, State.hl]

end Sys2Proof.Machine
end

section
/-! The encoding (spec/30_encoding.md): the encoder writes back the bytes an instruction was decoded from, quadrant by
quadrant (R154, R164); the decoder reads back the bytes an instruction encodes to; a step runs what the bytes at PC decode to. -/

namespace Sys2Proof.Machine

/-! ## The fields of an opcode byte (R154) -/

theorem toNat_fields (x : BitVec 2) (y z : BitVec 3) : (x ++ y ++ z).toNat = x.toNat * 64 + y.toNat * 8 + z.toNat := by
  rw [BitVec.toNat_append, BitVec.toNat_append, ← Nat.shiftLeft_add_eq_or_of_lt y.isLt, ← Nat.shiftLeft_add_eq_or_of_lt z.isLt]
  omega

/-- A byte is its fields: what holds of every x, y and z holds of every byte. -/
theorem forall_byte_of_fields {P : Byte → Prop} (h : ∀ (x : BitVec 2) (y z : BitVec 3), P (x ++ y ++ z)) (op : Byte) : P op := by
  have hop : op.extractLsb' 6 2 ++ op.extractLsb' 3 3 ++ op.extractLsb' 0 3 = op := by
    have := op.isLt
    apply BitVec.eq_of_toNat_eq
    simp only [toNat_fields, BitVec.extractLsb'_toNat, Nat.shiftRight_eq_div_pow]
    omega
  exact hop ▸ h _ _ _

@[simp] theorem fieldX_append (x : BitVec 2) (y z : BitVec 3) : fieldX (x ++ y ++ z) = x.toNat := by
  have := toNat_fields x y z
  unfold fieldX
  omega

@[simp] theorem fieldY_append (x : BitVec 2) (y z : BitVec 3) : fieldY (x ++ y ++ z) = y.toNat := by
  have := toNat_fields x y z
  unfold fieldY
  omega

@[simp] theorem fieldZ_append (x : BitVec 2) (y z : BitVec 3) : fieldZ (x ++ y ++ z) = z.toNat := by
  have := toNat_fields x y z
  unfold fieldZ
  omega

theorem operandCode_operandField : ∀ n : BitVec 3, operandCode (operandField n.toNat) = n :=
  forall_bitVec3 fun k => by fin_cases k <;> rfl

theorem aluCode_aluField : ∀ n : BitVec 3, aluCode (aluField n.toNat) = n :=
  forall_bitVec3 fun k => by fin_cases k <;> rfl

theorem shiftCode_shiftField : ∀ n : BitVec 3, shiftCode (shiftField n.toNat) = n :=
  forall_bitVec3 fun k => by fin_cases k <;> rfl

/-- Every field y or z is the code of the operand it names (R157). -/
theorem exists_operandCode (n : BitVec 3) : ∃ o, operandCode o = n ∧ operandField n.toNat = o :=
  ⟨operandField n.toNat, operandCode_operandField n, rfl⟩

/-- Two operand bytes are the halves of one word (R162). -/
theorem exists_word (lo hi : Byte) : ∃ w, loByte w = lo ∧ hiByte w = hi :=
  ⟨join hi lo, loByte_join hi lo, hiByte_join hi lo⟩

/-! ## The encoder writes back what the decoder read (R152, R154, R164, R167) -/

/-- The operand bytes of the instruction that starts with `op`: as many of the two after it as it has (R167). -/
def operandBytes (op b1 b2 : Byte) : List Byte := [b1, b2].take (instrLength op - 1)

/-- `i` is the canonical instruction written as `bytes`. -/
def Spells (i : Instr) (bytes : List Byte) : Prop := WellFormed i ∧ encode i = bytes

/-- `i` is the canonical instruction written as `op` and its operand bytes. -/
def SpellsOp (i : Instr) (op b1 b2 : Byte) : Prop := Spells i (op :: operandBytes op b1 b2)

theorem spells_ldReg (dst src : Reg8) (b1 b2 : Byte) :
    SpellsOp (Form.ldReg dst src) (0b01#2 ++ regCode dst ++ regCode src) b1 b2 := by
  cases dst <;> cases src <;> exact ⟨rfl, rfl⟩

theorem spells_ldFromHl (dst : Reg8) (b1 b2 : Byte) :
    SpellsOp (Form.ldFromHl dst) (0b01#2 ++ regCode dst ++ 0b110#3) b1 b2 := by
  cases dst <;> exact ⟨rfl, rfl⟩

theorem spells_ldToHl (src : Reg8) (b1 b2 : Byte) :
    SpellsOp (Form.ldToHl src) (0b01#2 ++ 0b110#3 ++ regCode src) b1 b2 := by
  cases src <;> exact ⟨rfl, rfl⟩

theorem spells_alu (k : AluOp) (o : Operand8) (b1 b2 : Byte) :
    SpellsOp (Form.alu k o) (0b10#2 ++ aluCode k ++ operandCode o) b1 b2 := by
  rcases o with r | _
  · cases k <;> cases r <;> exact ⟨rfl, rfl⟩
  · cases k <;> exact ⟨rfl, rfl⟩

theorem spells_shift (k : ShiftOp) (o : Operand8) : Spells (Form.shift k o) [0xCB, 0b00#2 ++ shiftCode k ++ operandCode o] := by
  rcases o with r | _
  · cases k <;> cases r <;> exact ⟨rfl, rfl⟩
  · cases k <;> exact ⟨rfl, rfl⟩

theorem spells_bit (n : BitVec 3) (o : Operand8) : Spells (Form.bit n o) [0xCB, 0b01#2 ++ n ++ operandCode o] := by
  revert n; apply forall_bitVec3; intro k
  rcases o with r | _
  · fin_cases k <;> cases r <;> exact ⟨rfl, rfl⟩
  · fin_cases k <;> exact ⟨rfl, rfl⟩

theorem spells_res (n : BitVec 3) (o : Operand8) : Spells (Form.res n o) [0xCB, 0b10#2 ++ n ++ operandCode o] := by
  revert n; apply forall_bitVec3; intro k
  rcases o with r | _
  · fin_cases k <;> cases r <;> exact ⟨rfl, rfl⟩
  · fin_cases k <;> exact ⟨rfl, rfl⟩

theorem spells_set (n : BitVec 3) (o : Operand8) : Spells (Form.set n o) [0xCB, 0b11#2 ++ n ++ operandCode o] := by
  revert n; apply forall_bitVec3; intro k
  rcases o with r | _
  · fin_cases k <;> cases r <;> exact ⟨rfl, rfl⟩
  · fin_cases k <;> exact ⟨rfl, rfl⟩

/-- The extended table, region by region (R164). -/
theorem spells_decodeExtended (n : Byte) : Spells (decodeExtended n) [0xCB, n] := by
  revert n
  refine forall_byte_of_fields fun x y z => ?_
  obtain ⟨o, rfl, ho⟩ := exists_operandCode z
  simp only [decodeExtended, fieldX_append, fieldY_append, fieldZ_append, ho, BitVec.ofNat_toNat, BitVec.setWidth_eq]
  obtain ⟨k, rfl⟩ : ∃ k : Fin 4, BitVec.ofFin k = x := ⟨x.toFin, rfl⟩
  fin_cases k
  · have h := spells_shift (shiftField y.toNat) o
    rwa [shiftCode_shiftField] at h
  · exact spells_bit y o
  · exact spells_res y o
  · exact spells_set y o

/-- Quadrant 0, column by column; its words are the two operand bytes joined. -/
theorem spells_quadrant0 (y z : BitVec 3) (b1 b2 : Byte) :
    SpellsOp (quadrant0 (0b00#2 ++ y ++ z) b1 b2) (0b00#2 ++ y ++ z) b1 b2 := by
  obtain ⟨w, rfl, rfl⟩ := exists_word b1 b2
  simp only [quadrant0, join_hi_lo]
  revert z y
  refine forall_bitVec3 fun k => forall_bitVec3 fun j => ?_
  fin_cases k <;> fin_cases j <;> exact ⟨rfl, rfl⟩

/-- Quadrant 1: the moves, and HALT in the place of LD (HL),(HL) (R155). -/
theorem spells_quadrant1 (y z : BitVec 3) (b1 b2 : Byte) :
    SpellsOp (quadrant1 (0b01#2 ++ y ++ z)) (0b01#2 ++ y ++ z) b1 b2 := by
  obtain ⟨dst, rfl, hdst⟩ := exists_operandCode y
  obtain ⟨src, rfl, hsrc⟩ := exists_operandCode z
  simp only [quadrant1, fieldY_append, fieldZ_append, hdst, hsrc]
  rcases dst with dst | _ <;> rcases src with src | _
  · exact spells_ldReg dst src b1 b2
  · exact spells_ldFromHl dst b1 b2
  · exact spells_ldToHl src b1 b2
  · exact ⟨rfl, rfl⟩

/-- Quadrant 2: the 8-bit ALU instructions (R156). -/
theorem spells_quadrant2 (y z : BitVec 3) (b1 b2 : Byte) :
    SpellsOp (Form.alu (aluField y.toNat) (operandField z.toNat)) (0b10#2 ++ y ++ z) b1 b2 := by
  obtain ⟨o, rfl, ho⟩ := exists_operandCode z
  have h := spells_alu (aluField y.toNat) o b1 b2
  rw [aluCode_aluField] at h
  exact ho.symm ▸ h

/-- Quadrant 3, column by column; at 0xCB stands the bare slot, which is no canonical instruction (R163). -/
theorem spells_quadrant3 (y z : BitVec 3) (b1 b2 : Byte) (hcb : 0b11#2 ++ y ++ z ≠ (0xCB : Byte)) :
    SpellsOp (quadrant3 (0b11#2 ++ y ++ z) b1 b2) (0b11#2 ++ y ++ z) b1 b2 := by
  obtain ⟨w, rfl, rfl⟩ := exists_word b1 b2
  simp only [quadrant3, join_hi_lo]
  revert y z
  refine forall_bitVec3 fun k => forall_bitVec3 fun j hcb => ?_
  fin_cases j
  pick_goal 4 -- column z = 3, where 0xCB is row y = 1
  · fin_cases k
    pick_goal 2
    · exact absurd rfl hcb
    all_goals exact ⟨rfl, rfl⟩
  all_goals fin_cases k <;> exact ⟨rfl, rfl⟩

theorem spells_decodePrimary (op b1 b2 : Byte) (hcb : op ≠ 0xCB) : SpellsOp (decodePrimary op b1 b2) op b1 b2 := by
  revert op
  refine forall_byte_of_fields fun x y z hcb => ?_
  obtain ⟨k, rfl⟩ : ∃ k : Fin 4, BitVec.ofFin k = x := ⟨x.toFin, rfl⟩
  simp only [decodePrimary, fieldX_append, fieldY_append, fieldZ_append]
  fin_cases k
  · exact spells_quadrant0 y z b1 b2
  · exact spells_quadrant1 y z b1 b2
  · exact spells_quadrant2 y z b1 b2
  · exact spells_quadrant3 y z b1 b2 hcb

/-- Through slot 0xCB or by the primary table, every opcode byte starts a canonical instruction (R152, R163). -/
theorem spells_decodeInstr (op b1 b2 : Byte) : SpellsOp (decodeInstr op b1 b2) op b1 b2 := by
  unfold decodeInstr
  split
  · subst op
    exact spells_decodeExtended b1
  · exact spells_decodePrimary op b1 b2 ‹_›

/-! ## The decoder on a byte sequence (R150, R151, R167) -/

theorem instrLength_cases (op : Byte) : instrLength op = 1 ∨ instrLength op = 2 ∨ instrLength op = 3 := by
  unfold instrLength
  split_ifs <;> simp

theorem instrLength_operandBytes (op b1 b2 : Byte) : instrLength op = (operandBytes op b1 b2).length + 1 := by
  rcases instrLength_cases op with h | h | h <;> simp [operandBytes, h]

/-- An instruction has no operand byte, one or two. -/
theorem operands_cases {op : Byte} {ops : List Byte} (hlen : instrLength op = ops.length + 1) :
    ops = [] ∨ (∃ b1, ops = [b1]) ∨ ∃ b1 b2, ops = [b1, b2] := by
  have hop := instrLength_cases op
  match ops with
  | [] => exact Or.inl rfl
  | [b1] => exact Or.inr (Or.inl ⟨b1, rfl⟩)
  | [b1, b2] => exact Or.inr (Or.inr ⟨b1, b2, rfl⟩)
  | _ :: _ :: _ :: ops => simp only [List.length_cons] at hlen; omega

theorem operandBytes_getD {op : Byte} {ops : List Byte} (hlen : instrLength op = ops.length + 1) :
    operandBytes op (ops.getD 0 0) (ops.getD 1 0) = ops := by
  rcases operands_cases hlen with rfl | ⟨b1, rfl⟩ | ⟨b1, b2, rfl⟩ <;> simp [operandBytes, hlen]

/-- What `decode` reads: an opcode, as many operand bytes as it has, and the rest. -/
theorem decode_ok {bytes rest : List Byte} {i : Instr} :
    decode bytes = .ok (i, rest) ↔
      ∃ op ops, bytes = op :: (ops ++ rest) ∧ instrLength op = ops.length + 1 ∧ i = decodeInstr op (ops.getD 0 0) (ops.getD 1 0) := by
  constructor
  · intro h
    unfold decode at h
    split at h
    · cases h
    · rename_i op tail
      split at h
      · rename_i hlen
        cases h
        exact ⟨op, [], rfl, hlen, rfl⟩
      · rename_i b1 tail hlen
        cases h
        exact ⟨op, [b1], rfl, hlen, rfl⟩
      · rename_i b1 b2 tail hlen
        cases h
        exact ⟨op, [b1, b2], rfl, hlen, rfl⟩
      · cases h
  · rintro ⟨op, ops, rfl, hlen, rfl⟩
    rcases operands_cases hlen with rfl | ⟨b1, rfl⟩ | ⟨b1, b2, rfl⟩ <;> simp [decode, hlen]

/-! ## The decoder reads back what the encoder wrote (R153, R167, R169, R170) -/

/-- The decoder's tables have `i` at the bytes the encoder's maps write for it. -/
def ReadsBack (i : Instr) : Prop :=
  match encode i with
  | [] => False
  | op :: ops => decodeInstr op (ops.getD 0 0) (ops.getD 1 0) = i

theorem exists_join (w : Word) : ∃ lo hi, join hi lo = w := ⟨loByte w, hiByte w, join_hi_lo w⟩

/-- The two tables, row against row: a row is computed, but for a word operand, whose bytes are joined again. The bare slot
0xCB is not canonical. -/
theorem readsBack {i : Instr} (h : WellFormed i) : ReadsBack i := by
  cases i
  case prefixCb => cases h
  case
    ldBcD16 w | ldDeD16 w | ldHlD16 w | ldSpD16 w | ldIndA16Sp w | ldIndA16A w | ldAIndA16 w | jpA16 w | jpNzA16 w | jpZA16 w |
    jpNcA16 w | jpCA16 w | callA16 w | callNzA16 w | callZA16 w | callNcA16 w | callCA16 w =>
    obtain ⟨lo, hi, rfl⟩ := exists_join w
    change decodeInstr _ (loByte (join hi lo)) (hiByte (join hi lo)) = _
    rw [loByte_join, hiByte_join]
    rfl
  all_goals exact rfl

/-- Settles O1: by `readsBack` the instruction is the reading of an opcode and operands, and these are its whole encoding. -/
theorem decodeOfEncode : Obligations.DecodeOfEncode := by
  intro i rest h
  have hread := readsBack h
  unfold ReadsBack at hread
  cases hbytes : encode i with
  | nil => simp [hbytes] at hread
  | cons op ops =>
    simp only [hbytes] at hread
    obtain ⟨-, hspell⟩ := spells_decodeInstr op (ops.getD 0 0) (ops.getD 1 0)
    rw [hread, hbytes, List.cons.injEq] at hspell
    have hlen : instrLength op = ops.length + 1 := by
      rw [hspell.2]
      exact instrLength_operandBytes ..
    exact decode_ok.mpr ⟨op, ops, rfl, hlen, hread.symm⟩

/-- No two canonical instructions are written alike (R153). -/
theorem encode_injective {i j : Instr} (hi : WellFormed i) (hj : WellFormed j) (h : encode i = encode j) : i = j := by
  have hread := decodeOfEncode i [] hi
  rw [h, decodeOfEncode j [] hj] at hread
  cases hread
  rfl

/-- A slot uses only the operand bytes it fetches (R154, R167). -/
theorem decodeInstr_operandBytes (op b1 b2 : Byte) :
    decodeInstr op ((operandBytes op b1 b2).getD 0 0) ((operandBytes op b1 b2).getD 1 0) = decodeInstr op b1 b2 := by
  obtain ⟨hwf, henc⟩ := spells_decodeInstr op b1 b2
  obtain ⟨hwf', henc'⟩ := spells_decodeInstr op ((operandBytes op b1 b2).getD 0 0) ((operandBytes op b1 b2).getD 1 0)
  rw [operandBytes_getD (instrLength_operandBytes op b1 b2)] at henc'
  exact encode_injective hwf' hwf (henc'.trans henc.symm)

/-- Three bytes are always enough to read an instruction. -/
theorem decode_threeBytes (op b1 b2 : Byte) (rest : List Byte) :
    decode (op :: b1 :: b2 :: rest) = .ok (decodeInstr op b1 b2, (op :: b1 :: b2 :: rest).drop (instrLength op)) := by
  refine decode_ok.mpr ⟨op, operandBytes op b1 b2, ?_, instrLength_operandBytes op b1 b2, (decodeInstr_operandBytes op b1 b2).symm⟩
  rcases instrLength_cases op with h | h | h <;> simp [operandBytes, h]

/-- Settles O2: the bytes read are an opcode and its operands, which `spells_decodeInstr` finds written back. -/
theorem encodeOfDecode : Obligations.EncodeOfDecode := by
  refine ⟨fun bytes i rest h => ?_, fun op b1 b2 rest => ⟨_, _, decode_threeBytes op b1 b2 rest⟩⟩
  obtain ⟨op, ops, rfl, hlen, rfl⟩ := decode_ok.mp h
  obtain ⟨hwf, henc⟩ := spells_decodeInstr op (ops.getD 0 0) (ops.getD 1 0)
  rw [operandBytes_getD hlen] at henc
  exact ⟨hwf, by rw [henc, List.cons_append]⟩

/-- Settles O3: the length is looked up in the two lists of R167. -/
theorem lengthFromFirstByte : Obligations.LengthFromFirstByte := by
  refine ⟨fun op => ?_, fun op b1 b2 rest => ⟨_, decode_threeBytes op b1 b2 rest⟩⟩
  simp only [instrLength, List.contains_iff_mem]
  rfl

/-- Settles O4: each word is computed. -/
theorem decodingSanity : Obligations.DecodingSanity :=
  ⟨rfl, rfl, rfl, rfl, rfl, rfl, rfl, rfl, rfl, rfl, rfl, rfl, rfl, rfl, rfl, rfl, rfl, rfl, rfl, rfl⟩

/-! ## Slot 0xCB and the undefined slots (R163, R165, R375) -/

/-- The extended table's instructions run the handlers slot 0xCB dispatches to (R163, R164). -/
theorem exec_decodeExtended (n : Byte) (s : State) : exec (decodeExtended n) s = secondary n s := by
  have hx := fieldX_lt n
  unfold decodeExtended secondary
  dsimp only
  generalize fieldX n = x at hx
  match x, hx with
  | 0, _ => exact exec_shift ..
  | 1, _ => exact exec_bit ..
  | 2, _ => exact exec_res ..
  | 3, _ => exact exec_set ..

/-- With a readable byte at HL every operand can be read and written. -/
theorem operand_access {s : State} (h : s.readable s.hl = true) (o : Operand8) :
    (∃ v, s.readOperand o = .ok v) ∧ ∀ v, ∃ t, s.writeOperand o v = .ok t := by
  obtain ⟨v, hv⟩ := readable_iff.mp h
  cases o with
  | reg r => exact ⟨⟨_, rfl⟩, fun _ => ⟨_, rfl⟩⟩
  | indHl => exact ⟨⟨v, hv⟩, fun w => ⟨_, busWrite_of_open (windowOpen_of_busRead hv) w⟩⟩

theorem secondary_next {s : State} (h : s.readable s.hl = true) (n : Byte) : ∃ t, secondary n s = .next t := by
  obtain ⟨⟨v, hv⟩, hwrite⟩ := operand_access h (operandField (fieldZ n))
  choose t ht using hwrite
  unfold secondary
  dsimp only
  split
  · exact ⟨_, reading_next.mpr ⟨v, hv, storing_next.mpr ⟨_, ht _, rfl⟩⟩⟩
  · exact ⟨_, reading_next.mpr ⟨v, hv, rfl⟩⟩
  · exact ⟨_, reading_next.mpr ⟨v, hv, storing_next.mpr ⟨_, ht _, rfl⟩⟩⟩
  · exact ⟨_, reading_next.mpr ⟨v, hv, storing_next.mpr ⟨_, ht _, rfl⟩⟩⟩

/-- Settles O5: the bare slot runs `secondary`, and so does the extended instruction. -/
theorem prefixSlotRunsTheExtendedInstruction : Obligations.PrefixSlotRunsTheExtendedInstruction := by
  have hexec : ∀ (n : Byte) (s : State), exec (.prefixCb n) s = exec (decodeExtended n) s := fun n s => by
    rw [exec_decodeExtended]
    rfl
  refine ⟨fun n b2 => ⟨rfl, rfl⟩, hexec, fun n s h => ?_⟩
  obtain ⟨t, ht⟩ := secondary_next h n
  rw [← exec_decodeExtended] at ht
  exact ⟨t, (hexec n s).trans ht, ht⟩

/-- The bytes of R165 are the undefined slots' opcodes. -/
theorem mem_undefined_iff (op : Byte) :
    op ∈ ([0xD3, 0xDB, 0xDD, 0xE3, 0xE4, 0xEB, 0xEC, 0xED, 0xF4, 0xFC, 0xFD] : List Byte) ↔ ∃ u, op = undefCode u := by
  constructor
  · intro h
    change op ∈ [UndefSlot.xD3, .xDB, .xDD, .xE3, .xE4, .xEB, .xEC, .xED, .xF4, .xFC, .xFD].map undefCode at h
    obtain ⟨u, -, hu⟩ := List.mem_map.mp h
    exact ⟨u, hu.symm⟩
  · rintro ⟨u, rfl⟩
    cases u <;> decide

/-- Settles O31: slot by slot, and `idle` under this hardware's policy. -/
theorem undefinedOpcodes : Obligations.UndefinedOpcodes := by
  refine ⟨fun u b1 b2 => ?_, mem_undefined_iff, fun u s => exec_undef u s, fun _ _ => rfl⟩
  cases u <;> rfl

/-! ## A step (R150, R151, R12) -/

theorem bytesAt_cons {s : State} {a : Word} {v : Byte} (h : s.busRead a = .ok v) {n : Nat} {bs : List Byte}
    (hbs : s.bytesAt (a + 1) n = .ok bs) : s.bytesAt a (n + 1) = .ok (v :: bs) := by
  rw [State.bytesAt, h]
  dsimp only
  rw [hbs]

theorem bytesAt_error_head {s : State} {a : Word} {r : Fault} (h : s.busRead a = .error r) (n : Nat) :
    s.bytesAt a (n + 1) = .error r := by
  rw [State.bytesAt, h]

theorem bytesAt_error_tail {s : State} {a : Word} {v : Byte} (h : s.busRead a = .ok v) {n : Nat} {r : Fault}
    (hbs : s.bytesAt (a + 1) n = .error r) : s.bytesAt a (n + 1) = .error r := by
  rw [State.bytesAt, h]
  dsimp only
  rw [hbs]

theorem add_one_add_one (a : Word) : a + 1 + 1 = a + 2 := BitVec.add_assoc a 1 1

/-- The operand bytes the bus answers after the opcode, as many as it has. -/
theorem bytesAt_operandBytes {s : State} {op b1 b2 : Byte} (h1 : 2 ≤ instrLength op → s.busRead (s.pc + 1) = .ok b1)
    (h2 : instrLength op = 3 → s.busRead (s.pc + 2) = .ok b2) :
    s.bytesAt (s.pc + 1) (instrLength op - 1) = .ok (operandBytes op b1 b2) := by
  unfold operandBytes
  rcases instrLength_cases op with h | h | h <;> rw [h] at h1 h2 ⊢
  · rfl
  · exact bytesAt_cons (h1 (by decide)) rfl
  · exact bytesAt_cons (h1 (by decide)) (bytesAt_cons (add_one_add_one s.pc ▸ h2 rfl) rfl)

/-- A fault among the operand bytes is the step's. -/
theorem step_operandFault {s : State} {op : Byte} {r : Fault} (hop : s.busRead s.pc = .ok op)
    (h : s.bytesAt (s.pc + 1) (instrLength op - 1) = .error r) : step s = .fault r :=
  step_fault.mpr (Or.inl (fetchInstr_error.mpr (Or.inr ⟨op, hop, h⟩)))

/-- Settles O46: the fetch answers the opcode and its operand bytes, or the first fault among them. -/
theorem stepRunsTheDecodedInstruction : Obligations.StepRunsTheDecodedInstruction := by
  refine ⟨fun s op b1 b2 hop h1 h2 => ?_, fun s r h => ?_, fun s op r hop hlen h => ?_, fun s op b1 r hop hlen h1 h2 => ?_⟩
  · obtain ⟨hwf, -⟩ := spells_decodeInstr op b1 b2
    have hfetch : s.fetchInstr = .ok (decodeInstr op b1 b2) :=
      fetchInstr_ok.mpr ⟨op, _, hop, bytesAt_operandBytes h1 h2, (decodeInstr_operandBytes op b1 b2).symm⟩
    exact ⟨hwf, by rw [step, hfetch]⟩
  · exact step_fault.mpr (Or.inl (fetchInstr_error.mpr (Or.inl h)))
  · refine step_operandFault hop ?_
    obtain ⟨n, hn⟩ : ∃ n, instrLength op - 1 = n + 1 := ⟨instrLength op - 2, by omega⟩
    rw [hn]
    exact bytesAt_error_head h n
  · refine step_operandFault hop ?_
    rw [hlen]
    exact bytesAt_error_tail h1 (bytesAt_error_head (add_one_add_one s.pc ▸ h2) 0)

end Sys2Proof.Machine
end

section
/-! Loads, stores and the stack (spec/40_loads.md R200 to R223): what each shared meaning answers where its accesses find a
handler and where they fault, the words of the family, and the stack round trip (R223, R343). -/

namespace Sys2Proof.Machine

/-! ## The end of an instruction, and operands as the statements write them -/

/-- An operation that kept PC and the cycle counter leaves them to the end of the instruction (R38, R491). -/
theorem retire_of_kept {s t : State} (hpc : t.pc = s.pc) (hcyc : t.cyc = s.cyc) (len : Word) (m : Cycles) :
    t.retire len m = { t with pc := s.pc + len, cyc := s.cyc + m } := by
  rw [State.retire, hpc, hcyc]

theorem retire_setReg (s : State) (r : Reg8) (v : Byte) (len : Word) (m : Cycles) :
    (s.setReg r v).retire len m = { s.setReg r v with pc := s.pc + len, cyc := s.cyc + m } :=
  retire_of_kept (setReg_pc s r v) (setReg_cyc s r v) len m

theorem bc_eq_append (s : State) : s.bc = s.b ++ s.c := join_eq_append s.b s.c

theorem de_eq_append (s : State) : s.de = s.d ++ s.e := join_eq_append s.d s.e

theorem hl_eq_append (s : State) : s.hl = s.h ++ s.l := join_eq_append s.h s.l

/-! ## Loads: the byte the bus answers, or its fault -/

theorem ldRegFrom_of_read {s : State} {a : Word} {v : Byte} (h : s.busRead a = .ok v) (dst : Reg8) (len : Word) (m : Cycles) :
    ldRegFrom dst a len m s = .next { s.setReg dst v with pc := s.pc + len, cyc := s.cyc + m } := by
  rw [ldRegFrom, h, reading_ok, retire_setReg]

theorem ldRegFrom_of_fault {s : State} {a : Word} {r : Fault} (h : s.busRead a = .error r) (dst : Reg8) (len : Word)
    (m : Cycles) : ldRegFrom dst a len m s = .fault r := by
  rw [ldRegFrom, h, reading_error]

theorem ldFromHlStep_of_read {s : State} {v : Byte} (h : s.busRead s.hl = .ok v) (step : Word) :
    ldFromHlStep step s =
      .next { s with a := v, h := hiByte (s.hl + step), l := loByte (s.hl + step), pc := s.pc + 1, cyc := s.cyc + 2 } := by
  rw [ldFromHlStep, h, reading_ok]
  rfl

theorem ldFromHlStep_of_fault {s : State} {r : Fault} (h : s.busRead s.hl = .error r) (step : Word) :
    ldFromHlStep step s = .fault r := by
  rw [ldFromHlStep, h, reading_error]

/-! ## Stores: the byte delivered, or NoCartridge -/

theorem ldTo_of_open {s : State} {a : Word} (h : s.windowOpen a = true) (v : Byte) (len : Word) (m : Cycles) :
    ldTo a v len m s = .next { s.deliver a v with pc := s.pc + len, cyc := s.cyc + m } := by
  rw [ldTo, busWrite_of_open h, storing_ok, retire_of_kept (deliver_pc s a v) (deliver_cyc s a v)]

theorem ldTo_of_closed {s : State} {a : Word} (h : s.windowOpen a = false) (v : Byte) (len : Word) (m : Cycles) :
    ldTo a v len m s = .fault .noCartridge := by
  rw [ldTo, busWrite_of_closed h, storing_error]

theorem ldTo16_of_open {s : State} {a : Word} (h1 : s.windowOpen a = true) (h2 : s.windowOpen (a + 1) = true) (v : Word)
    (len : Word) (m : Cycles) :
    ldTo16 a v len m s =
      .next { (s.deliver a (loByte v)).deliver (a + 1) (hiByte v) with pc := s.pc + len, cyc := s.cyc + m } := by
  rw [ldTo16, busWrite16_ok.mpr ⟨h1, h2, rfl⟩, storing_ok, retire_of_kept (s := s) (by simp) (by simp)]

theorem ldTo16_of_closed {s : State} {a : Word} (h : s.windowOpen a = false ∨ s.windowOpen (a + 1) = false) (v : Word)
    (len : Word) (m : Cycles) : ldTo16 a v len m s = .fault .noCartridge := by
  rw [ldTo16, busWrite16_of_closed h, storing_error]

theorem ldToHlStep_of_open {s : State} (h : s.windowOpen s.hl = true) (step : Word) :
    ldToHlStep step s =
      .next { s.deliver s.hl s.a with
              h := hiByte (s.hl + step), l := loByte (s.hl + step), pc := s.pc + 1, cyc := s.cyc + 2 } := by
  rw [ldToHlStep, busWrite_of_open h, storing_ok, retire_of_kept (s := s) (by simp) (by simp)]
  rfl

theorem ldToHlStep_of_closed {s : State} (h : s.windowOpen s.hl = false) (step : Word) :
    ldToHlStep step s = .fault .noCartridge := by
  rw [ldToHlStep, busWrite_of_closed h, storing_error]

/-! ## The stack (R12, R222, R223) -/

/-- What `Push16(v)` makes of the state: low byte at SP - 2, then high byte at SP - 1, and SP less 2. -/
def State.pushed (s : State) (v : Word) : State :=
  ((s.deliver (s.sp - 2) (loByte v)).deliver (s.sp - 1) (hiByte v)).setSp (s.sp - 2)

@[simp] theorem pushed_sp (s : State) (v : Word) : (s.pushed v).sp = s.sp - 2 := rfl

@[simp] theorem pushed_pc (s : State) (v : Word) : (s.pushed v).pc = s.pc := by simp [State.pushed]

@[simp] theorem pushed_cyc (s : State) (v : Word) : (s.pushed v).cyc = s.cyc := by simp [State.pushed]

theorem push16_eq_pushed {s : State} (h1 : s.windowOpen (s.sp - 2) = true) (h2 : s.windowOpen (s.sp - 1) = true) (v : Word) :
    s.push16 v = .ok (s.pushed v) := by
  rw [← sub_two_add_one] at h2
  rw [push16_of_open h1 h2, deliver_setSp, deliver_setSp, sub_two_add_one, State.pushed]

theorem pushPair_of_open {s : State} (h1 : s.windowOpen (s.sp - 2) = true) (h2 : s.windowOpen (s.sp - 1) = true)
    (qq : StackPair) : pushPair qq s = .next ((s.pushed (s.stackPair qq)).retire 1 4) := by
  rw [pushPair, push16_eq_pushed h1 h2, storing_ok]

theorem pushPair_of_closed {s : State} (h : s.windowOpen (s.sp - 2) = false ∨ s.windowOpen (s.sp - 1) = false)
    (qq : StackPair) : pushPair qq s = .fault .noCartridge := by
  rw [← sub_two_add_one] at h
  rw [pushPair, push16_of_closed h, storing_error]

theorem callTo_of_open {s : State} (h1 : s.windowOpen (s.sp - 2) = true) (h2 : s.windowOpen (s.sp - 1) = true)
    (target len : Word) (m : Cycles) : callTo target len m s = .next ((s.pushed (s.pc + len)).goto target m) := by
  rw [callTo, push16_eq_pushed h1 h2, storing_ok]

theorem popPair_of_pop {s : State} {v : Word} (h : s.pop16 = .ok v) (qq : StackPair) :
    popPair qq s = .next (((s.setSp (s.sp + 2)).setStackPair qq v).retire 1 3) := by
  rw [popPair, h, reading_ok]

theorem popPair_of_fault {s : State} {r : Fault} (h : s.pop16 = .error r) (qq : StackPair) : popPair qq s = .fault r := by
  rw [popPair, h, reading_error]

theorem returnTo_of_pop {s : State} {v : Word} (h : s.pop16 = .ok v) (m : Cycles) :
    returnTo m s = .next ((s.setSp (s.sp + 2)).goto v m) := by
  rw [returnTo, h, reading_ok]

/-! ## A pushed word reads back (R90, R120, R223, R343) -/

/-- Where in its 8 KiB a storage byte lies; RAM's mirror and the external RAM's banks keep it (R82, R113). -/
def Place.offset (p : Place) : Nat :=
  match p with
  | .ram k => k % 0x2000
  | .eram k => k % 0x2000
  | .ie => 0x1FFF

theorem eramIndex_mod (ct : Cart) {a : Word} (ha : 0xA000 ≤ a.toNat) : ct.eramIndex a % 0x2000 = a.toNat % 0x2000 := by
  unfold Cart.eramIndex
  omega

theorem offset_of_place {s : State} {a : Word} {p : Place} (h : s.storagePlace a = some p) : p.offset = a.toNat % 0x2000 := by
  have hr := covers_decodeAddr a
  cases hd : decodeAddr a <;> rw [hd] at hr <;> simp only [Region.covers] at hr
  case extRam =>
    rw [storagePlace_extRam hd] at h
    obtain ⟨ct, -, hct⟩ := Option.bind_eq_some_iff.mp h
    obtain ⟨-, hp⟩ := Option.ite_none_right_eq_some.mp hct
    obtain rfl := Option.some.inj hp
    exact eramIndex_mod ct hr.1
  all_goals simp only [State.storagePlace, storageIndex, hd, Option.some.injEq, reduceCtorEq] at h
  all_goals subst h
  all_goals simp only [Place.offset]
  all_goals omega

/-- Two addresses in a row are never the same storage byte. -/
theorem place_ne_of_succ {s : State} {a : Word} {p q : Place} (hp : s.storagePlace a = some p)
    (hq : s.storagePlace (a + 1) = some q) : q ≠ p := by
  rintro rfl
  have h := (offset_of_place hp).symm.trans (offset_of_place hq)
  rw [BitVec.toNat_add] at h
  simp at h
  omega

theorem windowOpen_of_place {s : State} {a : Word} (h : s.storagePlace a ≠ none) : s.windowOpen a = true := by
  obtain ⟨p, hp⟩ := Option.ne_none_iff_exists'.mp h
  exact windowOpen_of_busRead (busRead_of_place hp)

/-- A word stored in two storage bytes reads back: storing the second leaves the first. -/
theorem busRead16_deliver {s : State} (h : s.inv = true) {a : Word} (ha : s.storagePlace a ≠ none)
    (hb : s.storagePlace (a + 1) ≠ none) (v : Word) :
    ((s.deliver a (loByte v)).deliver (a + 1) (hiByte v)).busRead16 a = .ok v := by
  obtain ⟨p, hp⟩ := Option.ne_none_iff_exists'.mp ha
  obtain ⟨q, hq⟩ := Option.ne_none_iff_exists'.mp hb
  have hplace : ∀ b, (s.deliver a (loByte v)).storagePlace b = s.storagePlace b :=
    storagePlace_of_banks (deliver_banks (sparesBanks_of_place hp) _)
  have hplace' : ∀ b, ((s.deliver a (loByte v)).deliver (a + 1) (hiByte v)).storagePlace b = s.storagePlace b := fun b =>
    (storagePlace_of_banks (deliver_banks (sparesBanks_of_place ((hplace _).trans hq)) _) b).trans (hplace b)
  have hne : q ≠ p := place_ne_of_succ hp hq
  refine busRead16_ok.mpr ⟨loByte v, hiByte v, ?_, ?_, (join_hi_lo v).symm⟩
  · rw [busRead_of_place ((hplace' a).trans hp), atPlace_deliver (deliver_inv h _ _), atPlace_deliver h, hplace, hp, hq]
    simp [hne]
  · rw [busRead_of_place ((hplace' (a + 1)).trans hq), atPlace_deliver (deliver_inv h _ _), hplace, hq, if_pos rfl]

theorem SameBus.busRead16 {s t : State} (h : SameBus s t) (a : Word) : s.busRead16 a = t.busRead16 a := by
  simp only [State.busRead16, h.busRead]

/-- Where the stack bytes are storage, the word pushed is the next one popped. -/
theorem pop16_of_pushed {s t : State} (h : s.inv = true) (hlo : s.storagePlace (s.sp - 2) ≠ none)
    (hhi : s.storagePlace (s.sp - 1) ≠ none) {v : Word} (hbus : SameBus t (s.pushed v)) (hsp : t.sp = s.sp - 2) :
    t.pop16 = .ok v := by
  have hsetSp : ∀ (u : State) (w : Word), SameBus (u.setSp w) u := fun _ _ => ⟨rfl, rfl, rfl, rfl, rfl⟩
  rw [← sub_two_add_one] at hhi
  rw [State.pop16, hsp, (hbus.trans' (hsetSp _ _)).busRead16, ← sub_two_add_one]
  exact busRead16_deliver h hlo hhi v

/-- A byte whose bits 3..0 are 0 is what AF's setter makes of it (R34). -/
theorem mask_eq_self {v : Byte} (h : v.extractLsb' 0 4 = 0) : v &&& 0xF0 = v := by
  rw [mask_eq_append]
  apply BitVec.eq_of_toNat_eq
  have hv : v.toNat % 2 ^ 4 = 0 := by rw [← toNat_extractLow, h]; rfl
  rw [BitVec.toNat_append, BitVec.extractLsb'_toNat, Nat.shiftRight_eq_div_pow]
  simp [Nat.shiftLeft_eq]
  omega

/-- A stack pair holds the word written to it; AF where the word's bits 3..0 are 0 (R32, R34). -/
theorem stackPair_setStackPair {s t : State} (h : s.inv = true) (qq : StackPair) :
    (t.setStackPair qq (s.stackPair qq)).stackPair qq = s.stackPair qq := by
  cases qq with
  | bc => exact join_hi_lo _
  | de => exact join_hi_lo _
  | hl => exact join_hi_lo _
  | af =>
    obtain ⟨hf, -⟩ := (inv_iff s).mp h
    simp only [State.setStackPair, State.stackPair, State.af, setAf_a, setAf_f, hiByte_join, loByte_join, mask_eq_self hf]

/-! ## The statements, in a namespace of their own: two of their names are also those of shared meanings -/

namespace Loads

/-- Settles O58: the two stack bytes are different storage bytes, so the pop reads the word the push stored. -/
theorem stackRoundTrip : Obligations.StackRoundTrip := by
  intro s h hlo hhi
  have h1 := windowOpen_of_place hlo
  have h2 := windowOpen_of_place hhi
  refine ⟨fun qq => ?_, fun a16 => ?_⟩
  · have hpush : exec (Form.push qq) s = .next ((s.pushed (s.stackPair qq)).retire 1 4) :=
      (exec_push qq s).trans (pushPair_of_open h1 h2 qq)
    have hpop := pop16_of_pushed (t := (s.pushed (s.stackPair qq)).retire 1 4) h hlo hhi ⟨rfl, rfl, rfl, rfl, rfl⟩ rfl
    refine ⟨_, _, hpush, (exec_pop qq _).trans (popPair_of_pop hpop qq), stackPair_setStackPair h qq, ?_, ?_, ?_⟩
    · simp
    · simp [BitVec.add_assoc]
    · simp [BitVec.add_assoc]
  · have hpop := pop16_of_pushed (t := (s.pushed (s.pc + 3)).goto a16 6) h hlo hhi ⟨rfl, rfl, rfl, rfl, rfl⟩ rfl
    refine ⟨_, _, callTo_of_open h1 h2 a16 3 6, rfl, returnTo_of_pop hpop 4, rfl, ?_, ?_⟩
    · simp
    · simp [BitVec.add_assoc]

/-- Settles O6: the word by its two register fields, and the move keeps PC and the counter for the end of the instruction. -/
theorem loadRegisterFromRegister : Obligations.LoadRegisterFromRegister := by
  refine ⟨fun dst src b1 b2 => ?_, fun dst src s => ?_⟩
  · cases dst <;> cases src <;> rfl
  · rw [exec_ldReg, ldRegReg, retire_setReg]

/-- Settles O7: a load at HL. -/
theorem loadRegisterFromHl : Obligations.LoadRegisterFromHl := by
  refine ⟨fun dst b1 b2 => ?_, fun dst s v h => ?_, fun dst s r h => ?_⟩
  · cases dst <;> rfl
  · rw [exec_ldFromHl, ldRegFrom_of_read h]
  · rw [exec_ldFromHl, ldRegFrom_of_fault h]

/-- Settles O8: a store at HL. -/
theorem storeRegisterAtHl : Obligations.StoreRegisterAtHl := by
  refine ⟨fun src b1 b2 => ?_, fun src s h => ?_, fun src s h => ?_⟩
  · cases src <;> rfl
  · rw [exec_ldToHl, ldTo_of_open h]
  · rw [exec_ldToHl, ldTo_of_closed h]

/-- Settles O9: the register form writes one register, the (HL) form is a store at HL. -/
theorem loadImmediate : Obligations.LoadImmediate := by
  refine ⟨fun dst d8 b2 => ?_, fun d8 b2 => rfl, fun dst d8 s => ?_, fun d8 s h => ldTo_of_open h d8 2 3,
    fun d8 s h => ldTo_of_closed h d8 2 3⟩
  · cases dst <;> rfl
  · rw [exec_ldRegImm, ldRegImm, retire_setReg]

/-- Settles O10: five loads of A, whose addresses are the model's BC, DE and high page written out. -/
theorem loadAFromMemory : Obligations.LoadAFromMemory := by
  refine ⟨fun lo hi => ?_, fun s a16 a8 v => ?_, fun s a16 r => ?_⟩
  · rw [← join_eq_append]
    exact ⟨rfl, rfl, rfl, rfl, rfl⟩
  · rw [← bc_eq_append, ← de_eq_append, ← highPage_eq, ← highPage_eq]
    exact ⟨fun h => ldRegFrom_of_read h .a 1 2, fun h => ldRegFrom_of_read h .a 1 2, fun h => ldRegFrom_of_read h .a 3 4,
      fun h => ldRegFrom_of_read h .a 2 3, fun h => ldRegFrom_of_read h .a 1 2⟩
  · rw [← bc_eq_append, ← de_eq_append]
    exact ⟨fun h => ldRegFrom_of_fault h .a 1 2, fun h => ldRegFrom_of_fault h .a 1 2, fun h => ldRegFrom_of_fault h .a 3 4⟩

/-- Settles O11: five stores of A, those to the high page outside every cartridge window. -/
theorem storeAToMemory : Obligations.StoreAToMemory := by
  refine ⟨fun lo hi => ?_, fun s a16 => ?_, fun s a8 => ?_⟩
  · rw [← join_eq_append]
    exact ⟨rfl, rfl, rfl, rfl, rfl⟩
  · rw [← bc_eq_append, ← de_eq_append]
    exact ⟨fun h => ldTo_of_open h s.a 1 2, fun h => ldTo_of_open h s.a 1 2, fun h => ldTo_of_open h s.a 3 4,
      fun h => ldTo_of_closed h s.a 1 2, fun h => ldTo_of_closed h s.a 1 2, fun h => ldTo_of_closed h s.a 3 4⟩
  · rw [← highPage_eq, ← highPage_eq]
    exact ⟨ldTo_of_open (windowOpen_highPage s a8) s.a 2 3, ldTo_of_open (windowOpen_highPage s s.c) s.a 1 2⟩

/-- Settles O12: the access is at the old HL, and HL - 1 is the model's step of -1. -/
theorem transferAThroughHlAndMoveHl : Obligations.TransferAThroughHlAndMoveHl := by
  refine ⟨fun b1 b2 => ⟨rfl, rfl, rfl, rfl⟩, fun s hl hhl => ?_⟩
  obtain rfl : hl = s.hl := hhl.trans (hl_eq_append s).symm
  rw [← add_neg_one]
  exact ⟨fun h => ⟨ldToHlStep_of_open h 1, ldToHlStep_of_open h (-1)⟩,
    fun h => ⟨ldToHlStep_of_closed h 1, ldToHlStep_of_closed h (-1)⟩,
    fun v h => ⟨ldFromHlStep_of_read h 1, ldFromHlStep_of_read h (-1)⟩,
    fun r h => ⟨ldFromHlStep_of_fault h 1, ldFromHlStep_of_fault h (-1)⟩⟩

/-- Settles O13: the operand is its two bytes joined, and the store of SP is a 16-bit bus write. -/
theorem sixteenBitLoadsAndStoreOfSp : Obligations.SixteenBitLoadsAndStoreOfSp := by
  refine ⟨fun rr lo hi => ?_, fun lo hi => ?_, fun rr d16 s => ?_, fun s => ?_, fun a16 s h1 h2 => ldTo16_of_open h1 h2 s.sp 3 5,
    fun a16 s h => ldTo16_of_closed h s.sp 3 5⟩
  · rw [← join_eq_append]
    cases rr <;> rfl
  · rw [← join_eq_append]
    exact ⟨rfl, rfl⟩
  · rw [exec_ldPair, ldPairImm, retire_of_kept (setPair_pc s rr d16) (setPair_cyc s rr d16)]
  · rw [← hl_eq_append]
    rfl

/-- Settles O14: the state a push leaves, at the end of the instruction. -/
theorem pushPair : Obligations.PushPair := by
  refine ⟨fun qq b1 b2 => ?_, fun qq s h1 h2 => ?_, fun qq s h => ?_⟩
  · cases qq <;> rfl
  · rw [exec_push, pushPair_of_open h1 h2, retire_of_kept (pushed_pc s _) (pushed_cyc s _)]
    rfl
  · rw [exec_push, pushPair_of_closed h]

/-- Settles O15: the word popped is the two bytes joined, and each pair's setter takes it apart again. -/
theorem popPair : Obligations.PopPair := by
  refine ⟨fun qq b1 b2 => ?_, fun s lo hi hlo hhi => ?_, fun qq s r h => ?_, fun qq s lo r hlo h => ?_⟩
  · cases qq <;> rfl
  · have hpop : s.pop16 = .ok (join hi lo) := busRead16_ok.mpr ⟨lo, hi, hlo, hhi, rfl⟩
    refine ⟨(popPair_of_pop hpop .bc).trans ?_, (popPair_of_pop hpop .de).trans ?_, (popPair_of_pop hpop .hl).trans ?_,
      (popPair_of_pop hpop .af).trans ?_⟩
    · rw [State.setStackPair, setBc_join]; rfl
    · rw [State.setStackPair, setDe_join]; rfl
    · rw [State.setStackPair, setHl_join]; rfl
    · rw [State.setStackPair, setAf_join]; rfl
  · rw [exec_pop, popPair_of_fault (busRead16_error.mpr (Or.inl h))]
  · rw [exec_pop, popPair_of_fault (busRead16_error.mpr (Or.inr ⟨lo, hlo, h⟩))]

end Loads

end Sys2Proof.Machine
end

section
/-! The 8-bit ALU (spec/41_alu8.md R260 to R287): which words are its instructions, what its functions compute, and what its
shared meanings answer where the operand is read and where the read faults. -/

namespace Sys2Proof.Machine

/-! ## The words of the family (R154, R156, R250) -/

/-- The decoder answers the canonical instruction that a word spells: no other has its bytes. -/
theorem decodeInstr_of_spells {i : Instr} {op b1 b2 : Byte} (h : SpellsOp i op b1 b2) : decodeInstr op b1 b2 = i := by
  obtain ⟨hwf, hbytes⟩ := h
  obtain ⟨hwf', hbytes'⟩ := spells_decodeInstr op b1 b2
  exact encode_injective hwf' hwf (hbytes'.trans hbytes.symm)

theorem decodeInstr_alu (op : AluOp) (o : Operand8) (b1 b2 : Byte) :
    decodeInstr (0b10#2 ++ aluCode op ++ operandCode o) b1 b2 = Form.alu op o :=
  decodeInstr_of_spells (spells_alu op o b1 b2)

theorem decodeInstr_inc (o : Operand8) (b1 b2 : Byte) :
    decodeInstr (0b00#2 ++ operandCode o ++ 0b100#3) b1 b2 = Form.inc o := by
  rcases o with r | _
  · cases r <;> rfl
  · rfl

theorem decodeInstr_dec (o : Operand8) (b1 b2 : Byte) :
    decodeInstr (0b00#2 ++ operandCode o ++ 0b101#3) b1 b2 = Form.dec o := by
  rcases o with r | _
  · cases r <;> rfl
  · rfl

/-! ## The operand field, read and written back (R390) -/

theorem readOperand_reg {s : State} {r : Reg8} {v : Byte} (h : s.reg r = v) : s.readOperand (.reg r) = .ok v :=
  congrArg Except.ok h

/-- The state with a byte written through the operand field, where the write finds a handler. -/
def State.withOperand (s : State) (o : Operand8) (v : Byte) : State :=
  match o with
  | .reg r => s.setReg r v
  | .indHl => s.deliver s.hl v

@[simp] theorem withOperand_pc (s : State) (o : Operand8) (v : Byte) : (s.withOperand o v).pc = s.pc := by
  cases o with
  | reg r => exact setReg_pc s r v
  | indHl => exact deliver_pc s s.hl v

@[simp] theorem withOperand_cyc (s : State) (o : Operand8) (v : Byte) : (s.withOperand o v).cyc = s.cyc := by
  cases o with
  | reg r => exact setReg_cyc s r v
  | indHl => exact deliver_cyc s s.hl v

/-- An operand that was read can be written. -/
theorem writeOperand_of_read {s : State} {o : Operand8} {v : Byte} (h : s.readOperand o = .ok v) (w : Byte) :
    s.writeOperand o w = .ok (s.withOperand o w) := by
  cases o with
  | reg r => rfl
  | indHl => exact busWrite_of_open (windowOpen_of_busRead h) w

/-- The end of an instruction that read its operand: the operand written back, then the flags. -/
theorem writeBack_of_read {s : State} {o : Operand8} {v : Byte} (h : s.readOperand o = .ok v) (w : Byte) (fl : Flags)
    (len : Word) (m : Cycles) :
    storing (s.writeOperand o w) (fun t => .next ((t.setFlags fl).retire len m)) =
      .next { s.withOperand o w with f := fl.toByte, pc := s.pc + len, cyc := s.cyc + m } := by
  rw [writeOperand_of_read h, storing_ok,
    retire_of_kept (t := (s.withOperand o w).setFlags fl) (withOperand_pc s o w) (withOperand_cyc s o w)]
  rfl

/-! ## What the ALU computes, with the result given as a number or bit by bit (R251 to R257) -/

theorem aluAdd_of_toNat {a b r : Byte} {cin : Bool} (h : r.toNat = (a.toNat + b.toNat + cin.toNat) % 256) :
    aluAdd a b cin =
      ⟨r, ⟨decide (r = 0), false, decide (0x0F < a.toNat % 16 + b.toNat % 16 + cin.toNat),
        decide (0xFF < a.toNat + b.toNat + cin.toNat)⟩⟩ := by
  have hr : BitVec.ofNat 8 (a.toNat + b.toNat + cin.toNat) = r := BitVec.eq_of_toNat_eq h.symm
  rw [aluAdd, hr]
  rfl

theorem aluSub_of_toNat {a b r : Byte} {cin : Bool} (h : (r.toNat : Int) = ((a.toNat : Int) - b.toNat - cin.toNat) % 256) :
    aluSub a b cin =
      ⟨r, ⟨decide (r = 0), true, decide (a.toNat % 16 < b.toNat % 16 + cin.toNat),
        decide (a.toNat < b.toNat + cin.toNat)⟩⟩ := by
  have hr : BitVec.ofInt 8 ((a.toNat : Int) - b.toNat - cin.toNat) = r := by
    apply BitVec.eq_of_toNat_eq
    rw [BitVec.toNat_ofInt]
    omega
  rw [aluSub, hr]
  rfl

theorem aluAnd_of_bits {a b r : Byte} (h : ∀ k, k < 8 → r.getLsbD k = (a.getLsbD k && b.getLsbD k)) :
    aluAnd a b = ⟨r, ⟨decide (r = 0), false, true, false⟩⟩ := by
  obtain rfl : r = a &&& b := BitVec.eq_of_getLsbD_eq fun k hk => (h k hk).trans BitVec.getLsbD_and.symm
  rfl

theorem aluXor_of_bits {a b r : Byte} (h : ∀ k, k < 8 → r.getLsbD k = (a.getLsbD k ^^ b.getLsbD k)) :
    aluXor a b = ⟨r, ⟨decide (r = 0), false, false, false⟩⟩ := by
  obtain rfl : r = a ^^^ b := BitVec.eq_of_getLsbD_eq fun k hk => (h k hk).trans BitVec.getLsbD_xor.symm
  rfl

theorem aluOr_of_bits {a b r : Byte} (h : ∀ k, k < 8 → r.getLsbD k = (a.getLsbD k || b.getLsbD k)) :
    aluOr a b = ⟨r, ⟨decide (r = 0), false, false, false⟩⟩ := by
  obtain rfl : r = a ||| b := BitVec.eq_of_getLsbD_eq fun k hk => (h k hk).trans BitVec.getLsbD_or.symm
  rfl

theorem aluInc_of_toNat {v r : Byte} (h : r.toNat = (v.toNat + 1) % 256) (cf : Bool) :
    aluInc v cf = ⟨r, ⟨decide (r = 0), false, decide (v.toNat % 16 = 0x0F), cf⟩⟩ := by
  obtain rfl : r = v + 1 := BitVec.eq_of_toNat_eq (h.trans (BitVec.toNat_add v 1).symm)
  rfl

theorem aluDec_of_toNat {v r : Byte} (h : r.toNat = (v.toNat + 255) % 256) (cf : Bool) :
    aluDec v cf = ⟨r, ⟨decide (r = 0), true, decide (v.toNat % 16 = 0), cf⟩⟩ := by
  obtain rfl : r = v - 1 := by
    apply BitVec.eq_of_toNat_eq
    rw [h, BitVec.toNat_sub, Nat.add_comm]
    rfl
  rfl

/-! ## What the instructions answer (R260 to R287) -/

/-- A and F after an ALU operation; CP leaves A (R250). -/
theorem applyAlu_eq (s : State) (op : AluOp) (v : Byte) :
    s.applyAlu op v =
      { s with a := if aluWritesA op then (aluOp op s.a v s.cf).res else s.a, f := (aluOp op s.a v s.cf).flags.toByte } := by
  cases op <;> rfl

/-- The three forms of an ALU instruction, whose result and flags are those of `aluOp` (R250). -/
theorem alu_forms {s : State} {op : AluOp} {v r f x : Byte} {zf nf hf cf : Bool}
    (hop : aluOp op s.a v s.cf = ⟨r, ⟨zf, nf, hf, cf⟩⟩) (hflags : f = packFlags zf nf hf cf)
    (hx : x = if aluWritesA op then r else s.a) :
    (∀ q, s.reg q = v → exec (Form.alu op (.reg q)) s = .next { s with a := x, f := f, pc := s.pc + 1, cyc := s.cyc + 1 }) ∧
    (s.busRead s.hl = .ok v → exec (Form.alu op .indHl) s = .next { s with a := x, f := f, pc := s.pc + 1, cyc := s.cyc + 2 }) ∧
    exec (Form.aluImm op v) s = .next { s with a := x, f := f, pc := s.pc + 2, cyc := s.cyc + 2 } := by
  have happly : s.applyAlu op v = { s with a := x, f := f } := by rw [applyAlu_eq, hop, hx, hflags, packFlags_eq]
  have hoperand : ∀ o, s.readOperand o = .ok v →
      exec (Form.alu op o) s =
        .next { s with a := x, f := f, pc := s.pc + 1, cyc := s.cyc + operandCycles o 1 2 } := fun o ho => by
    rw [exec_alu, aluOperand, ho, reading_ok, happly]
    rfl
  refine ⟨fun q hq => hoperand (.reg q) (readOperand_reg hq), fun hv => hoperand .indHl hv, ?_⟩
  rw [exec_aluImm, aluImm, happly]
  rfl

theorem alu_of_fault {s : State} {r : Fault} (h : s.busRead s.hl = .error r) (op : AluOp) :
    exec (Form.alu op .indHl) s = .fault r := by
  rw [exec_alu, aluOperand, State.readOperand, h, reading_error]

theorem incOperand_of_read {s : State} {o : Operand8} {v up f : Byte} (h : s.readOperand o = .ok v)
    (hup : up.toNat = (v.toNat + 1) % 256)
    (hf : f = packFlags (decide (up = 0)) false (decide (v.toNat % 16 = 0x0F)) s.cf) :
    incOperand o s =
      .next { s.withOperand o up with f := f, pc := s.pc + 1, cyc := s.cyc + operandCycles o 1 3 } := by
  rw [incOperand, h, reading_ok, aluInc_of_toNat hup, hf, packFlags_eq]
  exact writeBack_of_read h up _ 1 _

theorem decOperand_of_read {s : State} {o : Operand8} {v down f : Byte} (h : s.readOperand o = .ok v)
    (hdown : down.toNat = (v.toNat + 255) % 256)
    (hf : f = packFlags (decide (down = 0)) true (decide (v.toNat % 16 = 0)) s.cf) :
    decOperand o s =
      .next { s.withOperand o down with f := f, pc := s.pc + 1, cyc := s.cyc + operandCycles o 1 3 } := by
  rw [decOperand, h, reading_ok, aluDec_of_toNat hdown, hf, packFlags_eq]
  exact writeBack_of_read h down _ 1 _

theorem incOperand_of_fault {s : State} {o : Operand8} {r : Fault} (h : s.readOperand o = .error r) :
    incOperand o s = .fault r := by
  rw [incOperand, h, reading_error]

theorem decOperand_of_fault {s : State} {o : Operand8} {r : Fault} (h : s.readOperand o = .error r) :
    decOperand o s = .fault r := by
  rw [decOperand, h, reading_error]

/-! ## The statements -/

/-- Settles O16: both sums are `aluAdd`'s, with the carry-in of ADD or of ADC. -/
theorem addAndAddWithCarry : Obligations.AddAndAddWithCarry := by
  refine ⟨fun o b1 b2 => ⟨decodeInstr_alu .add o b1 b2, decodeInstr_alu .adc o b1 b2⟩, fun d8 b2 => ⟨rfl, rfl⟩,
    fun s op cin hop v r f hr hf => ?_, fun s r h => ⟨alu_of_fault h .add, alu_of_fault h .adc⟩⟩
  rcases hop with ⟨rfl, rfl⟩ | ⟨rfl, rfl⟩
  · exact alu_forms (op := .add) (aluAdd_of_toNat hr) hf rfl
  · exact alu_forms (op := .adc) (aluAdd_of_toNat hr) hf rfl

/-- Settles O17: the three differences are `aluSub`'s, and CP alone writes no A. -/
theorem subtractWithBorrowAndCompare : Obligations.SubtractWithBorrowAndCompare := by
  refine ⟨fun o b1 b2 => ⟨decodeInstr_alu .sub o b1 b2, decodeInstr_alu .sbc o b1 b2, decodeInstr_alu .cp o b1 b2⟩,
    fun d8 b2 => ⟨rfl, rfl, rfl⟩, fun s op cin hop v r f x hr hf hx => ?_,
    fun s r h => ⟨alu_of_fault h .sub, alu_of_fault h .sbc, alu_of_fault h .cp⟩⟩
  rcases hop with ⟨rfl, rfl⟩ | ⟨rfl, rfl⟩ | ⟨rfl, rfl⟩
  · exact alu_forms (op := .sub) (aluSub_of_toNat hr) hf hx
  · exact alu_forms (op := .sbc) (aluSub_of_toNat hr) hf hx
  · exact alu_forms (op := .cp) (aluSub_of_toNat hr) hf hx

/-- Settles O18: a byte with the stated bits is the model's bitwise result. -/
theorem logicalOperations : Obligations.LogicalOperations := by
  refine ⟨fun o b1 b2 => ⟨decodeInstr_alu .and o b1 b2, decodeInstr_alu .xor o b1 b2, decodeInstr_alu .or o b1 b2⟩,
    fun d8 b2 => ⟨rfl, rfl, rfl⟩, fun s op v r f hop => ?_,
    fun s r h => ⟨alu_of_fault h .and, alu_of_fault h .xor, alu_of_fault h .or⟩⟩
  rcases hop with ⟨rfl, hbits, hf⟩ | ⟨rfl, hbits, hf⟩ | ⟨rfl, hbits, hf⟩
  · exact alu_forms (op := .and) (aluAnd_of_bits hbits) hf rfl
  · exact alu_forms (op := .xor) (aluXor_of_bits hbits) hf rfl
  · exact alu_forms (op := .or) (aluOr_of_bits hbits) hf rfl

/-- Settles O19: an operand that was read, a register or the byte at HL, is written back moved by one. -/
theorem incrementAndDecrementByte : Obligations.IncrementAndDecrementByte := by
  refine ⟨fun o b1 b2 => ⟨decodeInstr_inc o b1 b2, decodeInstr_dec o b1 b2⟩,
    fun s v up down fUp fDown hup hdown hfUp hfDown => ?_,
    fun s r h => ⟨incOperand_of_fault (o := .indHl) h, decOperand_of_fault (o := .indHl) h⟩⟩
  have hoperand : ∀ o, s.readOperand o = .ok v →
      exec (Form.inc o) s =
          .next { s.withOperand o up with f := fUp, pc := s.pc + 1, cyc := s.cyc + operandCycles o 1 3 } ∧
        exec (Form.dec o) s =
          .next { s.withOperand o down with f := fDown, pc := s.pc + 1, cyc := s.cyc + operandCycles o 1 3 } := fun o ho =>
    ⟨(exec_inc o s).trans (incOperand_of_read ho hup hfUp), (exec_dec o s).trans (decOperand_of_read ho hdown hfDown)⟩
  exact ⟨fun q hq => hoperand (.reg q) (readOperand_reg hq), fun hv => hoperand .indHl hv⟩

end Sys2Proof.Machine
end

section
/-! 16-bit arithmetic (spec/42_alu16.md R290 to R295): which words are its instructions, what its sums are as numbers, and the
state each shared meaning answers. -/

namespace Sys2Proof.Machine

/-! ## The words of the family (R154, R158) -/

theorem decodeInstr_addHl (rr : Pair) (b1 b2 : Byte) : decodeInstr (0b00#2 ++ pairCode rr ++ 0b1001#4) b1 b2 = Form.addHl rr := by
  cases rr <;> rfl

theorem decodeInstr_incPair (rr : Pair) (b1 b2 : Byte) :
    decodeInstr (0b00#2 ++ pairCode rr ++ 0b0011#4) b1 b2 = Form.incPair rr := by
  cases rr <;> rfl

theorem decodeInstr_decPair (rr : Pair) (b1 b2 : Byte) :
    decodeInstr (0b00#2 ++ pairCode rr ++ 0b1011#4) b1 b2 = Form.decPair rr := by
  cases rr <;> rfl

/-! ## Sums of words, given as numbers -/

theorem add_eq_of_toNat {a b r : Word} (h : r.toNat = (a.toNat + b.toNat) % 65536) : a + b = r :=
  BitVec.eq_of_toNat_eq ((BitVec.toNat_add a b).trans h.symm)

/-- A displacement byte is added as a signed number (R9). -/
theorem toNat_add_sext16 (w : Word) (e : Byte) :
    ((w + sext16 e).toNat : Int) =
      ((w.toNat : Int) + (if e.toNat < 0x80 then (e.toNat : Int) else (e.toNat : Int) - 256)) % 65536 := by
  have he : (sext16 e).toNat = (e.toInt % 65536).toNat := BitVec.toNat_ofInt e.toInt
  rw [BitVec.toNat_add, he, BitVec.toInt_eq_toNat_cond]
  split <;> split <;> omega

theorem spAdjustSum_of_toNat {sp r : Word} {e : Byte}
    (h : (r.toNat : Int) = ((sp.toNat : Int) + (if e.toNat < 0x80 then (e.toNat : Int) else (e.toNat : Int) - 256)) % 65536) :
    spAdjustSum sp e = r :=
  BitVec.eq_of_toNat_eq (Int.natCast_inj.mp ((toNat_add_sext16 sp e).trans h.symm))

/-! ## What the instructions answer (R290 to R295) -/

theorem addHlPair_of_sum {s : State} {rr : Pair} {r : Word} (h : s.hl + s.pair rr = r) :
    addHlPair rr s =
      .next { s with
              h := hiByte r, l := loByte r, f := (addHlFlags s.hl (s.pair rr) s.flags.z).toByte,
              pc := s.pc + 1, cyc := s.cyc + 2 } := by
  rw [← h]
  rfl

theorem addToPair_of_sum {s : State} {rr : Pair} {step r : Word} (h : s.pair rr + step = r) :
    addToPair rr step s = .next { s.setPair rr r with pc := s.pc + 1, cyc := s.cyc + 2 } := by
  rw [addToPair, h, retire_of_kept (setPair_pc s rr r) (setPair_cyc s rr r)]

theorem adjustSp_of_sum {s : State} {e8 : Byte} {r : Word} (h : spAdjustSum s.sp e8 = r) :
    adjustSp e8 s = .next { s with sp := r, f := (spAdjustFlags s.sp e8).toByte, pc := s.pc + 2, cyc := s.cyc + 4 } := by
  rw [← h]
  rfl

theorem ldHlAdjusted_of_sum {s : State} {e8 : Byte} {r : Word} (h : spAdjustSum s.sp e8 = r) :
    ldHlAdjusted e8 s =
      .next { s with
              h := hiByte r, l := loByte r, f := (spAdjustFlags s.sp e8).toByte, pc := s.pc + 2, cyc := s.cyc + 3 } := by
  rw [← h]
  rfl

/-! ## The statements -/

/-- Settles O20: the sum of the model's HL and the pair, with the carries out of bits 11 and 15. -/
theorem addToHl : Obligations.AddToHl := by
  refine ⟨decodeInstr_addHl, fun rr s a b r ha hb hr => ?_⟩
  obtain rfl : a = s.hl := ha.trans (hl_eq_append s).symm
  subst hb
  rw [exec_addHl, addHlPair_of_sum (add_eq_of_toNat hr), packFlags_eq]
  rfl

/-- Settles O21: DEC's step of -1 is the addition of 65535. -/
theorem incrementAndDecrementPair : Obligations.IncrementAndDecrementPair := by
  refine ⟨fun rr b1 b2 => ⟨decodeInstr_incPair rr b1 b2, decodeInstr_decPair rr b1 b2⟩, fun rr s up down hup hdown => ⟨?_, ?_⟩⟩
  · rw [exec_incPair, addToPair_of_sum (add_eq_of_toNat hup)]
  · have hminus : (-1 : Word).toNat = 65535 := rfl
    rw [← hminus] at hdown
    rw [exec_decPair, addToPair_of_sum (add_eq_of_toNat hdown)]

/-- Settles O22: both write the adjusted SP, with the flags of the unsigned low-byte sum. -/
theorem stackRelativeAdjust : Obligations.StackRelativeAdjust := by
  refine ⟨fun e8 b2 => ⟨rfl, rfl⟩, fun s e8 f r hr hf => ?_⟩
  have hsum : spAdjustSum s.sp e8 = r := spAdjustSum_of_toNat hr
  obtain rfl : f = (spAdjustFlags s.sp e8).toByte := hf.trans (packFlags_eq _ _ _ _)
  exact ⟨adjustSp_of_sum hsum, ldHlAdjusted_of_sum hsum⟩

end Sys2Proof.Machine
end

section
/-! Accumulator rotates, decimal adjust and flag operations (spec/43_accum_misc.md R310 to R317): the rotated bytes as
concatenations, DAA's two corrections as numbers and what they do to a sum of decimal numbers, and the state each shared
meaning answers. -/

namespace Sys2Proof.Machine

/-! ## Single bits of a byte, and a byte moved by one with the freed bit filled in (R310 to R313) -/

theorem shiftLeft_one_or_bit (v : Byte) (b : Bool) :
    (v <<< 1) ||| (if b then 1 else 0) = v.extractLsb' 0 7 ++ BitVec.ofBool b := by
  have hshift : v <<< 1 = v.extractLsb' 0 7 ++ 0#1 := BitVec.shiftLeft_eq_concat_of_lt (by decide)
  have hbit : (if b then 1 else 0 : Byte) = 0#7 ++ BitVec.ofBool b := by cases b <;> rfl
  rw [hshift, hbit]
  exact BitVec.or_append.trans (by rw [BitVec.or_zero, BitVec.zero_or])

theorem shiftRight_one_or_bit (v : Byte) (b : Bool) :
    (v >>> 1) ||| (if b then 0x80 else 0) = BitVec.ofBool b ++ v.extractLsb' 1 7 := by
  have hshift : v >>> 1 = 0#1 ++ v.extractLsb' 1 7 := BitVec.ushiftRight_eq_extractLsb'_of_lt (by decide)
  have hbit : (if b then 0x80 else 0 : Byte) = BitVec.ofBool b ++ 0#7 := by cases b <;> rfl
  rw [hshift, hbit]
  exact BitVec.or_append.trans (by rw [BitVec.or_zero, BitVec.zero_or])

theorem ofBool_getLsbD (v : Byte) (k : Nat) : BitVec.ofBool (v.getLsbD k) = v.extractLsb' k 1 := by
  refine BitVec.eq_of_getLsbD_eq fun j hj => ?_
  obtain rfl := Nat.lt_one_iff.mp hj
  simp

/-- The flags read back from the statements' flags byte. -/
theorem ofByte_packFlags (z n h c : Bool) : Flags.ofByte (packFlags z n h c) = ⟨z, n, h, c⟩ := by
  rw [packFlags_eq, ofByte_toByte]

/-! ## DAA's corrections (R314) -/

/-- DAA after an addition adds the two corrections, the second decided after the first is added. -/
theorem daaAfterAdd_eq {a low high : Nat} {hf cf : Bool} (hlow : low = if hf = true ∨ 9 < a % 16 then 6 else 0)
    (hhigh : high = if cf = true ∨ 0x9F < a + low then 0x60 else 0) : daaAfterAdd a hf cf = a + low + high := by
  have hfirst : (if hf || decide (a % 16 > 0x09) then a + 0x06 else a) = a + low := by
    by_cases h : hf = true ∨ 9 < a % 16 <;> simp [hlow, h]
  unfold daaAfterAdd
  rw [hfirst]
  by_cases h : cf = true ∨ 0x9F < a + low <;> simp [hhigh, h]

theorem daaAfterSub_eq (a : Int) (hf cf : Bool) :
    daaAfterSub a hf cf = a - (if hf = true then 6 else 0) - (if cf = true then 0x60 else 0) := by
  cases hf <;> cases cf <;> simp [daaAfterSub]

/-- The second correction can be decided on A itself: below 0x9A the first one cannot carry it past 0x9F. -/
theorem highCorrection_iff {a low : Nat} {hf : Bool} (hlow : low = if hf = true ∨ 9 < a % 16 then 6 else 0) :
    0x9F < a + low ↔ 0x99 < a := by
  split at hlow <;> omega

theorem daaResult_of_add {a r : Byte} {low high : Nat} {hf cf : Bool} (z : Bool)
    (hlow : low = if hf = true ∨ 9 < a.toNat % 16 then 6 else 0)
    (hhigh : high = if cf = true ∨ 0x9F < a.toNat + low then 0x60 else 0)
    (hr : r.toNat = (a.toNat + low + high) % 256) :
    daaResult a ⟨z, false, hf, cf⟩ = ⟨r, ⟨decide (r = 0), false, false, cf || decide (0xFF < a.toNat + low + high)⟩⟩ := by
  have hsum : BitVec.ofNat 8 (a.toNat + low + high) = r := BitVec.eq_of_toNat_eq hr.symm
  simp only [daaResult, daaAfterAdd_eq hlow hhigh, hsum]
  rfl

theorem daaResult_of_sub {a r : Byte} {hf cf : Bool} (z : Bool)
    (hr : (r.toNat : Int) = ((a.toNat : Int) - (if hf = true then 6 else 0) - (if cf = true then 0x60 else 0)) % 256) :
    daaResult a ⟨z, true, hf, cf⟩ = ⟨r, ⟨decide (r = 0), true, false, cf⟩⟩ := by
  have hdiff : BitVec.ofInt 8 (daaAfterSub a.toNat hf cf) = r := by
    apply BitVec.eq_of_toNat_eq
    rw [BitVec.toNat_ofInt, daaAfterSub_eq]
    omega
  simp only [daaResult, hdiff]
  rfl

/-! ## What the instructions answer (R310 to R317) -/

theorem accRotate_eq (k : AccRotate) (s : State) :
    accRotate k s =
      .next { s with
              a := shiftByte (accShiftOp k) s.a s.cf, f := packFlags false false false (shiftOut (accShiftOp k) s.a),
              pc := s.pc + 1, cyc := s.cyc + 1 } := by
  rw [packFlags_eq]
  rfl

theorem decimalAdjust_of_result {s : State} {r : Byte} {z n h c : Bool} (hdaa : daaResult s.a s.flags = ⟨r, ⟨z, n, h, c⟩⟩) :
    decimalAdjust s = .next { s with a := r, f := packFlags z n h c, pc := s.pc + 1, cyc := s.cyc + 1 } := by
  rw [decimalAdjust, hdaa, packFlags_eq]
  rfl

theorem flags_of_nf {s : State} {n : Bool} (h : s.nf = n) : s.flags = ⟨s.zf, n, s.hf, s.cf⟩ := by
  rw [← h]
  rfl

/-- DAA after an addition. -/
theorem exec_daa_of_add {s : State} {low high : Nat} {r : Byte} (hn : s.nf = false)
    (hlow : low = if s.hf = true ∨ 9 < s.a.toNat % 16 then 6 else 0)
    (hhigh : high = if s.cf = true ∨ 0x9F < s.a.toNat + low then 0x60 else 0)
    (hr : r.toNat = (s.a.toNat + low + high) % 256) :
    exec .daa s =
      .next { s with
              a := r, f := packFlags (decide (r = 0)) false false (s.cf || decide (0xFF < s.a.toNat + low + high)),
              pc := s.pc + 1, cyc := s.cyc + 1 } :=
  decimalAdjust_of_result (by rw [flags_of_nf hn, daaResult_of_add s.zf hlow hhigh hr])

/-- DAA after a subtraction. -/
theorem exec_daa_of_sub {s : State} {r : Byte} (hn : s.nf = true)
    (hr : (r.toNat : Int) = ((s.a.toNat : Int) - (if s.hf = true then 6 else 0) - (if s.cf = true then 0x60 else 0)) % 256) :
    exec .daa s =
      .next { s with a := r, f := packFlags (decide (r = 0)) true false s.cf, pc := s.pc + 1, cyc := s.cyc + 1 } :=
  decimalAdjust_of_result (by rw [flags_of_nf hn, daaResult_of_sub s.zf hr])

theorem complementA_of_toNat {s : State} {r : Byte} (h : r.toNat = 255 - s.a.toNat) :
    complementA s = .next { s with a := r, f := packFlags s.zf true true s.cf, pc := s.pc + 1, cyc := s.cyc + 1 } := by
  obtain rfl : r = ~~~s.a := BitVec.eq_of_toNat_eq (h.trans (BitVec.toNat_not (x := s.a)).symm)
  rw [packFlags_eq]
  rfl

theorem setCarry_eq (s : State) :
    setCarry s = .next { s with f := packFlags s.zf false false true, pc := s.pc + 1, cyc := s.cyc + 1 } := by
  rw [packFlags_eq]
  rfl

theorem complementCarry_eq (s : State) :
    complementCarry s = .next { s with f := packFlags s.zf false false (!s.cf), pc := s.pc + 1, cyc := s.cyc + 1 } := by
  rw [packFlags_eq]
  rfl

/-! ## A sum of decimal numbers, corrected (R314) -/

/-- The number that the two decimal digits of a byte spell. -/
def decimalValue (n : Nat) : Nat := n / 16 * 10 + n % 16

/-- A byte's two digits are decimal. -/
def IsDecimal (n : Nat) : Prop := n % 16 < 10 ∧ n / 16 < 10

/-- The byte of two decimal digits. -/
theorem decimal_of_digits {tens units : Nat} (htens : tens < 10) (hunits : units < 10) :
    decimalValue (16 * tens + units) = 10 * tens + units ∧ IsDecimal (16 * tens + units) := by
  unfold decimalValue IsDecimal
  omega

section
variable {a b cin low high : Nat}

/-- After an addition with half carry the low digit is corrected exactly where the two low digits reach ten. -/
theorem lowCorrection_of_decimal (ha : IsDecimal a) (hb : IsDecimal b) (hcin : cin ≤ 1)
    (hlow : low = if 0x0F < a % 16 + b % 16 + cin ∨ 9 < (a + b + cin) % 256 % 16 then 6 else 0) :
    low = if 10 ≤ a % 16 + b % 16 + cin then 6 else 0 := by
  obtain ⟨ha0, -⟩ := ha
  obtain ⟨hb0, -⟩ := hb
  rw [hlow]
  exact if_congr (by omega) rfl rfl

/-- With the low correction the sum has the units of the decimal sum as its low digit, and the tens, up to 19, above. -/
theorem tens_units_of_decimal (ha : IsDecimal a) (hb : IsDecimal b) (hcin : cin ≤ 1)
    (hlow : low = if 10 ≤ a % 16 + b % 16 + cin then 6 else 0) :
    ∃ tens units, tens < 20 ∧ units < 10 ∧ a + b + cin + low = 16 * tens + units ∧
      decimalValue a + decimalValue b + cin = 10 * tens + units := by
  obtain ⟨ha0, ha1⟩ := ha
  obtain ⟨hb0, hb1⟩ := hb
  unfold decimalValue
  split at hlow
  · exact ⟨a / 16 + b / 16 + 1, a % 16 + b % 16 + cin - 10, by omega⟩
  · exact ⟨a / 16 + b / 16, a % 16 + b % 16 + cin, by omega⟩

/-- The two corrections make the sum's byte the decimal sum modulo a hundred, and a carry shows where it reaches it. -/
theorem correctedSum_of_decimal (ha : IsDecimal a) (hb : IsDecimal b) (hcin : cin ≤ 1)
    (hlow : low = if 0x0F < a % 16 + b % 16 + cin ∨ 9 < (a + b + cin) % 256 % 16 then 6 else 0)
    (hhigh : high = if 0xFF < a + b + cin ∨ 0x9F < (a + b + cin) % 256 + low then 0x60 else 0) :
    decimalValue (((a + b + cin) % 256 + low + high) % 256) = (decimalValue a + decimalValue b + cin) % 100 ∧
      IsDecimal (((a + b + cin) % 256 + low + high) % 256) ∧
      ((0xFF < a + b + cin ∨ 0xFF < (a + b + cin) % 256 + low + high) ↔ 100 ≤ decimalValue a + decimalValue b + cin) := by
  have hlow := lowCorrection_of_decimal ha hb hcin hlow
  obtain ⟨tens, units, htens, hunits, hsum, hvalue⟩ := tens_units_of_decimal ha hb hcin hlow
  have hlow6 : low ≤ 6 := by split at hlow <;> omega
  rw [hvalue]
  by_cases h : tens < 10
  · have hhigh : high = 0 := hhigh.trans (if_neg (by omega))
    have hbyte : ((a + b + cin) % 256 + low + high) % 256 = 16 * tens + units := by omega
    obtain ⟨hval, hdec⟩ := decimal_of_digits h hunits
    rw [hbyte, hval]
    exact ⟨by omega, hdec, by omega⟩
  · have hhigh : high = 0x60 := hhigh.trans (if_pos (by omega))
    have hbyte : ((a + b + cin) % 256 + low + high) % 256 = 16 * (tens - 10) + units := by omega
    obtain ⟨hval, hdec⟩ := decimal_of_digits (show tens - 10 < 10 by omega) hunits
    rw [hbyte, hval]
    exact ⟨by omega, hdec, by omega⟩

end

/-! ## The addition, then DAA, as numbers (R251, R262, R265, R314) -/

/-- What an immediate addition leaves for DAA: the sum in A and the carries out of bits 3 and 7 in H and C. -/
theorem exec_aluImm_of_add {s : State} {op : AluOp} {v : Byte} {cin : Bool}
    (hop : (op = .add ∧ cin = false) ∨ (op = .adc ∧ cin = s.cf)) :
    ∃ t, exec (Form.aluImm op v) s = .next t ∧ t.a.toNat = (s.a.toNat + v.toNat + cin.toNat) % 256 ∧ t.nf = false ∧
      t.hf = decide (0x0F < s.a.toNat % 16 + v.toNat % 16 + cin.toNat) ∧
      t.cf = decide (0xFF < s.a.toNat + v.toNat + cin.toNat) := by
  have hr := BitVec.toNat_ofNat (s.a.toNat + v.toNat + cin.toNat) 8
  obtain ⟨-, -, hforms, -⟩ := addAndAddWithCarry
  obtain ⟨-, -, himm⟩ := hforms s op cin hop v _ _ hr rfl
  exact ⟨_, himm, hr, congrArg Flags.n (ofByte_packFlags _ _ _ _), congrArg Flags.h (ofByte_packFlags _ _ _ _),
    congrArg Flags.c (ofByte_packFlags _ _ _ _)⟩

/-- DAA after an addition completes, with the corrected A and the carry of its corrections. -/
theorem exec_daa_toNat_of_add {t : State} {low high : Nat} (hn : t.nf = false)
    (hlow : low = if t.hf = true ∨ 9 < t.a.toNat % 16 then 6 else 0)
    (hhigh : high = if t.cf = true ∨ 0x9F < t.a.toNat + low then 0x60 else 0) :
    ∃ u, exec .daa t = .next u ∧ u.a.toNat = (t.a.toNat + low + high) % 256 ∧
      u.cf = (t.cf || decide (0xFF < t.a.toNat + low + high)) :=
  have hr := BitVec.toNat_ofNat (t.a.toNat + low + high) 8
  ⟨_, exec_daa_of_add hn hlow hhigh hr, hr, congrArg Flags.c (ofByte_packFlags _ _ _ _)⟩

/-- The sum of two decimal numbers, taken by ADD or ADC and corrected by DAA. -/
theorem decimalSum_of_add {s : State} {op : AluOp} {v : Byte} {cin : Bool}
    (hop : (op = .add ∧ cin = false) ∨ (op = .adc ∧ cin = s.cf))
    (ha : IsDecimal s.a.toNat) (hv : IsDecimal v.toNat) :
    ∃ t u, exec (Form.aluImm op v) s = .next t ∧ exec .daa t = .next u ∧
      decimalValue u.a.toNat = (decimalValue s.a.toNat + decimalValue v.toNat + cin.toNat) % 100 ∧ IsDecimal u.a.toNat ∧
      (u.cf = true ↔ 100 ≤ decimalValue s.a.toNat + decimalValue v.toNat + cin.toNat) := by
  obtain ⟨t, hadd, htA, htN, htH, htC⟩ := exec_aluImm_of_add hop
  obtain ⟨u, hdaa, huA, huC⟩ := exec_daa_toNat_of_add htN rfl rfl
  simp only [htA, htH, htC, decide_eq_true_eq] at huA huC
  obtain ⟨hvalue, hdigits, hcarry⟩ := correctedSum_of_decimal ha hv (Bool.toNat_le cin) rfl rfl
  rw [← huA] at hvalue hdigits
  refine ⟨t, u, hadd, hdaa, hvalue, hdigits, ?_⟩
  rw [huC, Bool.or_eq_true, decide_eq_true_eq, decide_eq_true_eq, hcarry]

/-! ## The statements, in a namespace of their own: `decimalAdjust` is also a shared meaning -/

namespace AccumMisc

/-- Settles O23: a byte moved by one, with the bit that leaves it or the carry in the freed place. -/
theorem accumulatorRotates : Obligations.AccumulatorRotates := by
  refine ⟨fun b1 b2 => ⟨rfl, rfl, rfl, rfl⟩, fun s => ⟨?_, ?_, ?_, ?_⟩⟩
  · rw [← ofBool_getLsbD, ← shiftLeft_one_or_bit]
    exact accRotate_eq .rlca s
  · rw [← ofBool_getLsbD, ← shiftRight_one_or_bit]
    exact accRotate_eq .rrca s
  · rw [← shiftLeft_one_or_bit]
    exact accRotate_eq .rla s
  · rw [← shiftRight_one_or_bit]
    exact accRotate_eq .rra s

/-- Settles O24: DAA's result after an addition and after a subtraction, and the second correction decided on A itself. -/
theorem decimalAdjust : Obligations.DecimalAdjust :=
  ⟨fun _ _ => rfl,
    fun _ _ _ _ hn hlow hhigh hr =>
      ⟨hhigh.trans (if_congr (or_congr_right (highCorrection_iff hlow)) rfl rfl), exec_daa_of_add hn hlow hhigh hr⟩,
    fun _ _ hn hr => exec_daa_of_sub hn hr⟩

/-- Settles O25: each flag byte is rebuilt with the flags the instruction keeps. -/
theorem complementAndCarryFlags : Obligations.ComplementAndCarryFlags :=
  ⟨fun _ _ => ⟨rfl, rfl, rfl⟩, fun s => ⟨fun _ hr => complementA_of_toNat hr, setCarry_eq s, complementCarry_eq s⟩⟩

/-- Settles O59: H and the low nibble tell where the low digits reach ten, C and the high nibble where the sum reaches a
hundred. -/
theorem decimalAdjustAddsInDecimal : Obligations.DecimalAdjustAddsInDecimal := by
  intro s v i cin hi ha0 ha1 hv0 hv1
  obtain ⟨op, c, rfl, rfl, hop⟩ :
      ∃ op c, i = Form.aluImm op v ∧ cin = Bool.toNat c ∧ ((op = .add ∧ c = false) ∨ (op = .adc ∧ c = s.cf)) := by
    rcases hi with ⟨rfl, rfl⟩ | ⟨rfl, rfl⟩
    · exact ⟨.add, false, rfl, rfl, .inl ⟨rfl, rfl⟩⟩
    · exact ⟨.adc, s.cf, rfl, rfl, .inr ⟨rfl, rfl⟩⟩
  obtain ⟨t, u, hadd, hdaa, hvalue, ⟨hlow, hhigh⟩, hcarry⟩ := decimalSum_of_add hop ⟨ha0, ha1⟩ ⟨hv0, hv1⟩
  exact ⟨t, u, hadd, hdaa, hvalue, hlow, hhigh, hcarry⟩

end AccumMisc

end Sys2Proof.Machine
end

section
/-! Control transfer (spec/44_control.md R330 to R341): which words are its instructions, what a condition is of the flags, and
what each shared meaning answers where it is taken, where it is not, and where the stack faults. -/

namespace Sys2Proof.Machine

/-! ## The words of the family (R154, R160, R161) -/

theorem decodeInstr_jpCc (cc : Cond) (lo hi : Byte) :
    decodeInstr (0b110#3 ++ condCode cc ++ 0b010#3) lo hi = Form.jpCc cc (join hi lo) := by
  cases cc <;> rfl

theorem decodeInstr_jrCc (cc : Cond) (e8 b2 : Byte) :
    decodeInstr (0b001#3 ++ condCode cc ++ 0b000#3) e8 b2 = Form.jrCc cc e8 := by
  cases cc <;> rfl

theorem decodeInstr_callCc (cc : Cond) (lo hi : Byte) :
    decodeInstr (0b110#3 ++ condCode cc ++ 0b100#3) lo hi = Form.callCc cc (join hi lo) := by
  cases cc <;> rfl

theorem decodeInstr_retCc (cc : Cond) (b1 b2 : Byte) :
    decodeInstr (0b110#3 ++ condCode cc ++ 0b000#3) b1 b2 = Form.retCc cc := by
  cases cc <;> rfl

theorem decodeInstr_rst (y : BitVec 3) (b1 b2 : Byte) : decodeInstr (0b11#2 ++ y ++ 0b111#3) b1 b2 = Form.rst y := by
  revert y
  apply forall_bitVec3
  intro k
  fin_cases k <;> rfl

/-! ## Conditions: a taken transfer is the unconditional one, one not taken only passes its own bytes (R330) -/

/-- The statements' condition is the one the model evaluates. -/
theorem condHolds_iff {s : State} {cc : Cond} : s.condHolds cc ↔ s.cond cc = true := by
  cases cc with
  | nz => exact Iff.of_eq (Bool.not_eq_true' _).symm
  | z => exact Iff.rfl
  | nc => exact Iff.of_eq (Bool.not_eq_true' _).symm
  | c => exact Iff.rfl

theorem not_condHolds_iff {s : State} {cc : Cond} : ¬ s.condHolds cc ↔ s.cond cc = false := by
  rw [condHolds_iff, Bool.not_eq_true]

theorem jumpAbsCc_of_holds {s : State} {cc : Cond} (h : s.condHolds cc) (a16 : Word) :
    jumpAbsCc cc a16 s = jumpAbs a16 s := by
  rw [jumpAbsCc, condHolds_iff.mp h]
  rfl

theorem jumpAbsCc_of_not {s : State} {cc : Cond} (h : ¬ s.condHolds cc) (a16 : Word) :
    jumpAbsCc cc a16 s = .next (s.retire 3 3) := by
  rw [jumpAbsCc, not_condHolds_iff.mp h]
  rfl

theorem jumpRelCc_of_holds {s : State} {cc : Cond} (h : s.condHolds cc) (e8 : Byte) :
    jumpRelCc cc e8 s = jumpRel e8 s := by
  rw [jumpRelCc, condHolds_iff.mp h]
  rfl

theorem jumpRelCc_of_not {s : State} {cc : Cond} (h : ¬ s.condHolds cc) (e8 : Byte) :
    jumpRelCc cc e8 s = .next (s.retire 2 2) := by
  rw [jumpRelCc, not_condHolds_iff.mp h]
  rfl

theorem callAbsCc_of_holds {s : State} {cc : Cond} (h : s.condHolds cc) (a16 : Word) :
    callAbsCc cc a16 s = callAbs a16 s := by
  rw [callAbsCc, condHolds_iff.mp h]
  rfl

theorem callAbsCc_of_not {s : State} {cc : Cond} (h : ¬ s.condHolds cc) (a16 : Word) :
    callAbsCc cc a16 s = .next (s.retire 3 3) := by
  rw [callAbsCc, not_condHolds_iff.mp h]
  rfl

theorem returnCc_of_holds {s : State} {cc : Cond} (h : s.condHolds cc) : returnCc cc s = returnTo 5 s := by
  rw [returnCc, condHolds_iff.mp h]
  rfl

theorem returnCc_of_not {s : State} {cc : Cond} (h : ¬ s.condHolds cc) : returnCc cc s = .next (s.retire 1 2) := by
  rw [returnCc, not_condHolds_iff.mp h]
  rfl

/-! ## Jumps, calls and returns (R331 to R341) -/

/-- A relative jump's target, given as a number: counted from the next instruction (R334). -/
theorem jumpRel_of_toNat {s : State} {e8 : Byte} {target : Word}
    (h : (target.toNat : Int) =
      ((s.pc.toNat : Int) + 2 + (if e8.toNat < 0x80 then (e8.toNat : Int) else (e8.toNat : Int) - 256)) % 65536) :
    jumpRel e8 s = .next { s with pc := target, cyc := s.cyc + 3 } := by
  have htarget : s.pc + 2 + sext16 e8 = target := by
    have hsum := toNat_add_sext16 (s.pc + 2) e8
    have hpc : (s.pc + 2).toNat = (s.pc.toNat + 2) % 65536 := BitVec.toNat_add s.pc 2
    apply BitVec.eq_of_toNat_eq
    omega
  rw [jumpRel, htarget]
  rfl

/-- The return address is stored and SP lowered before PC goes to the target (R336). -/
theorem callTo_eq_delivered {s : State} (h1 : s.windowOpen (s.sp - 2) = true) (h2 : s.windowOpen (s.sp - 1) = true)
    (target len : Word) (m : Cycles) :
    callTo target len m s =
      .next { (s.deliver (s.sp - 2) (loByte (s.pc + len))).deliver (s.sp - 1) (hiByte (s.pc + len)) with
              sp := s.sp - 2, pc := target, cyc := s.cyc + m } := by
  rw [callTo_of_open h1 h2, State.goto, pushed_cyc]
  rfl

theorem callTo_of_closed {s : State} (h : s.windowOpen (s.sp - 2) = false ∨ s.windowOpen (s.sp - 1) = false)
    (target len : Word) (m : Cycles) : callTo target len m s = .fault .noCartridge := by
  rw [← sub_two_add_one] at h
  rw [callTo, push16_of_closed h, storing_error]

theorem returnTo_of_reads {s : State} {lo hi : Byte} (hlo : s.busRead s.sp = .ok lo) (hhi : s.busRead (s.sp + 1) = .ok hi)
    (m : Cycles) : returnTo m s = .next { s with pc := hi ++ lo, sp := s.sp + 2, cyc := s.cyc + m } := by
  rw [returnTo_of_pop (busRead16_ok.mpr ⟨lo, hi, hlo, hhi, rfl⟩), join_eq_append]
  rfl

theorem returnTo_of_fault {s : State} {r : Fault}
    (h : s.busRead s.sp = .error r ∨ (s.readable s.sp = true ∧ s.busRead (s.sp + 1) = .error r)) (m : Cycles) :
    returnTo m s = .fault r := by
  obtain ⟨-, read16_fault, -⟩ := sixteenBitBusAccess
  rw [returnTo, State.pop16, read16_fault s s.sp r h, reading_error]

/-! ## The statements -/

/-- Settles O26: a taken conditional jump is the unconditional one, and a relative target is the model's signed sum. -/
theorem jumpsAndRelativeJumps : Obligations.JumpsAndRelativeJumps := by
  refine ⟨fun cc lo hi => ?_, fun s cc a16 e8 target htarget => ?_⟩
  · rw [← join_eq_append]
    exact ⟨rfl, decodeInstr_jpCc cc lo hi, rfl, rfl, decodeInstr_jrCc cc lo hi⟩
  · have hrel := jumpRel_of_toNat htarget
    rw [exec_jpCc, exec_jrCc, ← hl_eq_append]
    exact ⟨rfl, rfl, hrel, fun h => ⟨jumpAbsCc_of_holds h a16, (jumpRelCc_of_holds h e8).trans hrel⟩,
      fun h => ⟨jumpAbsCc_of_not h a16, jumpRelCc_of_not h e8⟩⟩

/-- Settles O27: RST is a call of one byte, and a taken conditional call is the unconditional one. -/
theorem callsAndRestarts : Obligations.CallsAndRestarts := by
  refine ⟨fun cc lo hi => ?_, decodeInstr_rst, fun s cc a16 y => ?_, fun s cc a16 y h => ?_⟩
  · rw [← join_eq_append]
    exact ⟨rfl, decodeInstr_callCc cc lo hi⟩
  · rw [exec_callCc, exec_rst]
    refine ⟨fun h1 h2 => ?_, fun h => callAbsCc_of_not h a16⟩
    have hcall := callTo_eq_delivered h1 h2
    exact ⟨hcall a16 3 6, fun h => (callAbsCc_of_holds h a16).trans (hcall a16 3 6), hcall _ 1 4⟩
  · have hcall := callTo_of_closed h
    rw [exec_callCc, exec_rst]
    exact ⟨hcall a16 3 6, hcall _ 1 4, fun hc => (callAbsCc_of_holds hc a16).trans (hcall a16 3 6)⟩

/-- Settles O28: RETI is RET, and RET cc is the same pop of PC where its condition holds. -/
theorem returns : Obligations.Returns := by
  refine ⟨fun cc b1 b2 => ⟨rfl, rfl, decodeInstr_retCc cc b1 b2⟩, fun s cc lo hi hlo hhi => ?_, fun s cc h => ?_,
    fun s cc r h => ?_⟩
  · have hret := returnTo_of_reads hlo hhi
    rw [exec_retCc]
    exact ⟨hret 4, hret 4, fun hc => (returnCc_of_holds hc).trans (hret 5)⟩
  · rw [exec_retCc, returnCc_of_not h]
    rfl
  · have hret := returnTo_of_fault h
    rw [exec_retCc]
    exact ⟨hret 4, hret 4, fun hc => (returnCc_of_holds hc).trans (hret 5)⟩

end Sys2Proof.Machine
end

section
/-! System instructions (spec/45_system.md R370 to R374): five of them fetch their opcode and pass one M-cycle. -/

namespace Sys2Proof.Machine

theorem idle_eq_next (s : State) : idle s = .next { s with pc := s.pc + 1, cyc := s.cyc + 1 } := rfl

/-- Under the policy that does not stop the machine, HALT is as NOP (R371). -/
theorem haltUnder_nop (s : State) : haltUnder .nop s = idle s := rfl

/-- HALT takes this hardware's policy (R7, R371). -/
theorem exec_halt (s : State) : exec .halt s = haltUnder .nop s := rfl

/-- NOP, STOP, DI and EI have one meaning: there is no interrupt state for them to change (R370, R372 to R374). -/
theorem exec_eq_idle {i : Instr} (h : i = .nop ∨ i = .stop ∨ i = .di ∨ i = .ei) (s : State) : exec i s = idle s := by
  obtain rfl | rfl | rfl | rfl := h
  · rfl
  · rfl
  · rfl
  · rfl

/-- Settles O29: each of the four is `idle`, and STOP's opcode is in neither list of longer instructions. -/
theorem nopStopAndInterruptEnables : Obligations.NopStopAndInterruptEnables := by
  refine ⟨fun b1 b2 => ⟨rfl, rfl, rfl, rfl⟩, by decide, fun s i hi => ?_⟩
  rw [exec_eq_idle hi, idle_eq_next]

/-- Settles O30: HALT runs `haltUnder` with this hardware's policy, which is `idle`. -/
theorem haltIsOneCycle : Obligations.HaltIsOneCycle := by
  refine ⟨fun b1 b2 => rfl, fun s => ?_⟩
  rw [exec_halt, haltUnder_nop, idle_eq_next]

end Sys2Proof.Machine
end

section
/-! Extended rotates, shifts and SWAP (spec/46_cb_shift.md R390 to R406): which words are its instructions, the byte each
operation gives as a concatenation of the old byte's bits, and the state the shared meaning answers. -/

namespace Sys2Proof.Machine

/-! ## The words of the family (R163, R164) -/

theorem decodeInstr_shift (op : ShiftOp) (o : Operand8) (b2 : Byte) :
    decodeInstr 0xCB (0b00#2 ++ shiftCode op ++ operandCode o) b2 = Form.shift op o :=
  decodeInstr_of_spells (spells_shift op o)

/-! ## The byte of each operation, bit by bit (R391 to R406) -/

theorem shiftByte_rlc (v : Byte) (cf : Bool) : shiftByte .rlc v cf = v.extractLsb' 0 7 ++ v.extractLsb' 7 1 := by
  rw [← ofBool_getLsbD]
  exact shiftLeft_one_or_bit v (v.getLsbD 7)

theorem shiftByte_rrc (v : Byte) (cf : Bool) : shiftByte .rrc v cf = v.extractLsb' 0 1 ++ v.extractLsb' 1 7 := by
  rw [← ofBool_getLsbD]
  exact shiftRight_one_or_bit v (v.getLsbD 0)

theorem shiftByte_rl (v : Byte) (cf : Bool) : shiftByte .rl v cf = v.extractLsb' 0 7 ++ BitVec.ofBool cf :=
  shiftLeft_one_or_bit v cf

theorem shiftByte_rr (v : Byte) (cf : Bool) : shiftByte .rr v cf = BitVec.ofBool cf ++ v.extractLsb' 1 7 :=
  shiftRight_one_or_bit v cf

theorem shiftByte_sla (v : Byte) (cf : Bool) : shiftByte .sla v cf = v.extractLsb' 0 7 ++ 0#1 :=
  BitVec.shiftLeft_eq_concat_of_lt (by decide)

theorem shiftByte_srl (v : Byte) (cf : Bool) : shiftByte .srl v cf = 0#1 ++ v.extractLsb' 1 7 :=
  BitVec.ushiftRight_eq_extractLsb'_of_lt (by decide)

/-- The mask of SRA keeps the sign bit where it is. -/
theorem and_signMask (v : Byte) : v &&& 0x80 = if v.getLsbD 7 then 0x80 else 0 :=
  BitVec.and_twoPow v 7

/-- The sign bit kept is the freed bit filled in with it. -/
theorem shiftByte_sra (v : Byte) (cf : Bool) : shiftByte .sra v cf = v.extractLsb' 7 1 ++ v.extractLsb' 1 7 := by
  rw [← ofBool_getLsbD, ← shiftRight_one_or_bit, ← and_signMask]
  rfl

/-- The low nibble moved up and the high nibble moved down have no bit in common. -/
theorem shiftByte_swap (v : Byte) (cf : Bool) : shiftByte .swap v cf = v.extractLsb' 0 4 ++ v.extractLsb' 4 4 := by
  have hlow : (v &&& 0x0F) <<< 4 = v.extractLsb' 0 4 ++ 0#4 := by
    rw [BitVec.shiftLeft_eq_concat_of_lt (by decide), BitVec.extractLsb'_and]
    exact congrArg (· ++ 0#4) BitVec.and_allOnes
  have hhigh : v >>> 4 = 0#4 ++ v.extractLsb' 4 4 := BitVec.ushiftRight_eq_extractLsb'_of_lt (by decide)
  rw [shiftByte, hlow, hhigh]
  exact BitVec.or_append.trans (by rw [BitVec.or_zero, BitVec.zero_or])

/-! ## What the instructions answer (R390 to R406) -/

theorem cbShift_of_read {s : State} {o : Operand8} {v : Byte} (h : s.readOperand o = .ok v) (op : ShiftOp) :
    cbShift op o s =
      .next { s.withOperand o (shiftByte op v s.cf) with
              f := packFlags (decide (shiftByte op v s.cf = 0)) false false (shiftOut op v),
              pc := s.pc + 2, cyc := s.cyc + operandCycles o 2 4 } := by
  rw [cbShift, h, reading_ok, packFlags_eq]
  exact writeBack_of_read h _ _ 2 _

/-- The two forms of an extended shift, on a register and on the byte at HL (R390). -/
theorem shift_forms {s : State} {op : ShiftOp} {v r : Byte} {c : Bool} (hr : r = shiftByte op v s.cf)
    (hc : c = shiftOut op v) :
    (∀ q, s.reg q = v → exec (Form.shift op (.reg q)) s =
      .next { s.setReg q r with f := packFlags (decide (r = 0)) false false c, pc := s.pc + 2, cyc := s.cyc + 2 }) ∧
    (s.busRead s.hl = .ok v → exec (Form.shift op .indHl) s =
      .next { s.deliver s.hl r with f := packFlags (decide (r = 0)) false false c, pc := s.pc + 2, cyc := s.cyc + 4 }) := by
  subst hr hc
  refine ⟨fun q hq => ?_, fun hv => ?_⟩
  · exact (exec_shift op (.reg q) s).trans (cbShift_of_read (readOperand_reg hq) op)
  · exact (exec_shift op .indHl s).trans (cbShift_of_read (o := .indHl) hv op)

theorem shift_of_fault {s : State} {r : Fault} (h : s.busRead s.hl = .error r) (op : ShiftOp) :
    exec (Form.shift op .indHl) s = .fault r := by
  rw [exec_shift, cbShift, State.readOperand, h, reading_error]

/-! ## The statements -/

/-- Settles O32: each rotated byte is the concatenation its rule states, and the bit shifted out is `shiftOut`'s. -/
theorem extendedRotates : Obligations.ExtendedRotates := by
  refine ⟨fun o b2 => ⟨decodeInstr_shift .rlc o b2, decodeInstr_shift .rrc o b2, decodeInstr_shift .rl o b2,
      decodeInstr_shift .rr o b2⟩, fun s op v r c hop => ?_,
    fun s r h => ⟨shift_of_fault h .rlc, shift_of_fault h .rrc, shift_of_fault h .rl, shift_of_fault h .rr⟩⟩
  rcases hop with ⟨rfl, hr, hc⟩ | ⟨rfl, hr, hc⟩ | ⟨rfl, hr, hc⟩ | ⟨rfl, hr, hc⟩
  · exact shift_forms (hr.trans (shiftByte_rlc v s.cf).symm) hc
  · exact shift_forms (hr.trans (shiftByte_rrc v s.cf).symm) hc
  · exact shift_forms (hr.trans (shiftByte_rl v s.cf).symm) hc
  · exact shift_forms (hr.trans (shiftByte_rr v s.cf).symm) hc

/-- Settles O33: the freed bit is 0 or the sign bit, and SWAP's nibbles change places with nothing shifted out. -/
theorem extendedShiftsAndSwap : Obligations.ExtendedShiftsAndSwap := by
  refine ⟨fun o b2 => ⟨decodeInstr_shift .sla o b2, decodeInstr_shift .sra o b2, decodeInstr_shift .swap o b2,
      decodeInstr_shift .srl o b2⟩, fun s op v r c hop => ?_,
    fun s r h => ⟨shift_of_fault h .sla, shift_of_fault h .sra, shift_of_fault h .swap, shift_of_fault h .srl⟩⟩
  rcases hop with ⟨rfl, hr, hc⟩ | ⟨rfl, hr, hc⟩ | ⟨rfl, hr, hc⟩ | ⟨rfl, hr, hc⟩
  · exact shift_forms (hr.trans (shiftByte_sla v s.cf).symm) hc
  · exact shift_forms (hr.trans (shiftByte_sra v s.cf).symm) hc
  · exact shift_forms (hr.trans (shiftByte_swap v s.cf).symm) hc
  · exact shift_forms (hr.trans (shiftByte_srl v s.cf).symm) hc

end Sys2Proof.Machine
end

section
/-! Extended bit test, reset and set (spec/47_cb_bit.md R420 to R425): which words are its instructions, the byte with one bit
changed, and the state each shared meaning answers. -/

namespace Sys2Proof.Machine

/-! ## The words of the family (R163, R164) -/

theorem decodeInstr_bit (n : BitVec 3) (o : Operand8) (b2 : Byte) :
    decodeInstr 0xCB (0b01#2 ++ n ++ operandCode o) b2 = Form.bit n o :=
  decodeInstr_of_spells (spells_bit n o)

theorem decodeInstr_res (n : BitVec 3) (o : Operand8) (b2 : Byte) :
    decodeInstr 0xCB (0b10#2 ++ n ++ operandCode o) b2 = Form.res n o :=
  decodeInstr_of_spells (spells_res n o)

theorem decodeInstr_set (n : BitVec 3) (o : Operand8) (b2 : Byte) :
    decodeInstr 0xCB (0b11#2 ++ n ++ operandCode o) b2 = Form.set n o :=
  decodeInstr_of_spells (spells_set n o)

/-! ## The byte with one bit changed, given bit by bit (R422, R424) -/

/-- A bit number is below 8, so its mask is not empty. -/
theorem getLsbD_bitMask (n : BitVec 3) (k : Nat) : (bitMask n).getLsbD k = decide (k = n.toNat) := by
  have hmask : bitMask n = BitVec.twoPow 8 n.toNat := rfl
  rw [hmask, BitVec.getLsbD_twoPow, decide_eq_true n.isLt, Bool.true_and]
  exact decide_eq_decide.mpr eq_comm

theorem resByte_of_bits {n : BitVec 3} {v low : Byte}
    (h : ∀ k, k < 8 → low.getLsbD k = if k = n.toNat then false else v.getLsbD k) : resByte n v = low := by
  refine BitVec.eq_of_getLsbD_eq fun k hk => ?_
  rw [resByte, BitVec.getLsbD_and, BitVec.getLsbD_not, decide_eq_true hk, Bool.true_and, getLsbD_bitMask, h k hk]
  by_cases hn : k = n.toNat
  · simp [hn]
  · simp [hn]

theorem setByte_of_bits {n : BitVec 3} {v high : Byte}
    (h : ∀ k, k < 8 → high.getLsbD k = if k = n.toNat then true else v.getLsbD k) : setByte n v = high := by
  refine BitVec.eq_of_getLsbD_eq fun k hk => ?_
  rw [setByte, BitVec.getLsbD_or, getLsbD_bitMask, h k hk]
  by_cases hn : k = n.toNat
  · simp [hn]
  · simp [hn]

/-! ## What the instructions answer (R420 to R425) -/

theorem cbBit_of_read {s : State} {o : Operand8} {v : Byte} (h : s.readOperand o = .ok v) (n : BitVec 3) :
    cbBit n o s =
      .next { s with
              f := packFlags (!v.getLsbD n.toNat) false true s.cf, pc := s.pc + 2, cyc := s.cyc + operandCycles o 2 3 } := by
  rw [cbBit, h, reading_ok, packFlags_eq]
  rfl

/-- The end of an instruction that writes its operand back and no flag, where the operand was read. -/
theorem writeBackKeepingFlags_of_read {s : State} {o : Operand8} {v : Byte} (h : s.readOperand o = .ok v) (w : Byte)
    (len : Word) (m : Cycles) :
    storing (s.writeOperand o w) (fun t => .next (t.retire len m)) =
      .next { s.withOperand o w with pc := s.pc + len, cyc := s.cyc + m } := by
  rw [writeOperand_of_read h, storing_ok, retire_of_kept (withOperand_pc s o w) (withOperand_cyc s o w)]

theorem cbRes_of_read {s : State} {o : Operand8} {v low : Byte} {n : BitVec 3} (h : s.readOperand o = .ok v)
    (hlow : resByte n v = low) :
    cbRes n o s = .next { s.withOperand o low with pc := s.pc + 2, cyc := s.cyc + operandCycles o 2 4 } := by
  rw [cbRes, h, reading_ok, hlow, writeBackKeepingFlags_of_read h]

theorem cbSet_of_read {s : State} {o : Operand8} {v high : Byte} {n : BitVec 3} (h : s.readOperand o = .ok v)
    (hhigh : setByte n v = high) :
    cbSet n o s = .next { s.withOperand o high with pc := s.pc + 2, cyc := s.cyc + operandCycles o 2 4 } := by
  rw [cbSet, h, reading_ok, hhigh, writeBackKeepingFlags_of_read h]

theorem cbBit_of_fault {s : State} {o : Operand8} {r : Fault} (h : s.readOperand o = .error r) (n : BitVec 3) :
    cbBit n o s = .fault r := by
  rw [cbBit, h, reading_error]

theorem cbRes_of_fault {s : State} {o : Operand8} {r : Fault} (h : s.readOperand o = .error r) (n : BitVec 3) :
    cbRes n o s = .fault r := by
  rw [cbRes, h, reading_error]

theorem cbSet_of_fault {s : State} {o : Operand8} {r : Fault} (h : s.readOperand o = .error r) (n : BitVec 3) :
    cbSet n o s = .fault r := by
  rw [cbSet, h, reading_error]

/-! ## The statements -/

/-- Settles O34: only F changes, to the packed inverse of the bit, whichever operand was read. -/
theorem testBit : Obligations.TestBit := by
  refine ⟨decodeInstr_bit, fun s n v f hf => ?_,
    fun s n r h => (exec_bit n .indHl s).trans (cbBit_of_fault (o := .indHl) h n)⟩
  subst hf
  refine ⟨fun q hq => ?_, fun hv => ?_⟩
  · exact (exec_bit n (.reg q) s).trans (cbBit_of_read (readOperand_reg hq) n)
  · exact (exec_bit n .indHl s).trans (cbBit_of_read (o := .indHl) hv n)

/-- Settles O35: a byte with the stated bits is the model's masked byte, which is written back where it was read. -/
theorem resetAndSetBit : Obligations.ResetAndSetBit := by
  refine ⟨fun n o b2 => ⟨decodeInstr_res n o b2, decodeInstr_set n o b2⟩, fun s n v low high hlow hhigh => ?_,
    fun s n r h => ⟨(exec_res n .indHl s).trans (cbRes_of_fault (o := .indHl) h n),
      (exec_set n .indHl s).trans (cbSet_of_fault (o := .indHl) h n)⟩⟩
  have hoperand : ∀ o, s.readOperand o = .ok v →
      exec (Form.res n o) s = .next { s.withOperand o low with pc := s.pc + 2, cyc := s.cyc + operandCycles o 2 4 } ∧
        exec (Form.set n o) s =
          .next { s.withOperand o high with pc := s.pc + 2, cyc := s.cyc + operandCycles o 2 4 } := fun o ho =>
    ⟨(exec_res n o s).trans (cbRes_of_read ho (resByte_of_bits hlow)),
      (exec_set n o s).trans (cbSet_of_read ho (setByte_of_bits hhigh))⟩
  exact ⟨fun q hq => hoperand (.reg q) (readOperand_reg hq), fun hv => hoperand .indHl hv⟩

end Sys2Proof.Machine
end

section
/-! Completion, faults and duration of a step (R440, R441, R490): what every instruction answers, proved once over the shared
meanings, and what follows from it for a complete cartridge, for the faults and for the cycles charged. -/

namespace Sys2Proof.Machine

/-! ## What an access and an instruction can answer -/

/-- A fault that some access to the bus of `s` answers. -/
def State.busFault (s : State) (r : Fault) : Prop := (∃ a, s.busRead a = .error r) ∨ ∃ a v, s.busWrite a v = .error r

/-- A duration of the table of R490. -/
abbrev IsDuration (m : Cycles) : Prop := 1 ≤ m.toNat ∧ m.toNat ≤ 6

/-- A read that faults only where the bus does. -/
def FaultsWithBus {α : Type} (s : State) (x : Except Fault α) : Prop := ∀ r, x = .error r → s.busFault r

/-- A write that faults only where the bus does, and otherwise leaves the cycle counter alone. -/
def KeepsCycles (s : State) (x : Except Fault State) : Prop :=
  match x with
  | .ok t => t.cyc = s.cyc
  | .error r => s.busFault r

/-- A result that is a next state with a duration charged, or a fault of the bus, and no refusal. -/
def Answers (s : State) (x : Result) : Prop :=
  match x with
  | .next t => ∃ m, IsDuration m ∧ t.cyc = s.cyc + m
  | .fault r => s.busFault r
  | .refused _ => False

section
variable {s u : State} {len : Word} {m : Cycles}

theorem answers_retire (hm : IsDuration m) (hu : u.cyc = s.cyc) : Answers s (.next (u.retire len m)) :=
  ⟨m, hm, by rw [retire_cyc, hu]⟩

theorem answers_goto {target : Word} (hm : IsDuration m) (hu : u.cyc = s.cyc) : Answers s (.next (u.goto target m)) :=
  ⟨m, hm, by rw [goto_cyc, hu]⟩

theorem answers_reading {α : Type} {x : Except Fault α} {k : α → Result} (hx : FaultsWithBus s x)
    (hk : ∀ v, Answers s (k v)) : Answers s (reading x k) := by
  cases x with
  | error r => exact hx r rfl
  | ok v => exact hk v

theorem answers_storing {x : Except Fault State} {k : State → Result} (hx : KeepsCycles s x)
    (hk : ∀ t, t.cyc = s.cyc → Answers s (k t)) : Answers s (storing x k) := by
  cases x with
  | error r => exact hx
  | ok t => exact hk t hx

theorem answers_ite {c : Prop} [Decidable c] {x y : Result} (hx : Answers s x) (hy : Answers s y) :
    Answers s (if c then x else y) := by
  split <;> assumption

end

/-! ## Durations that depend on the operand or on the condition -/

theorem operandCycles_isDuration {m mHl : Cycles} (hm : IsDuration m) (hHl : IsDuration mHl) (o : Operand8) :
    IsDuration (operandCycles o m mHl) := by
  cases o with
  | reg r => exact hm
  | indHl => exact hHl

theorem condCycles_isDuration {taken notTaken : Cycles} (ht : IsDuration taken) (hn : IsDuration notTaken) (holds : Bool) :
    IsDuration (condCycles holds taken notTaken) := by
  cases holds with
  | false => exact hn
  | true => exact ht

/-! ## The bus and the operand field -/

theorem busFault_of_closed {s : State} {a : Word} (h : s.windowOpen a = false) : s.busFault .noCartridge :=
  Or.inr ⟨a, 0, busWrite_of_closed h 0⟩

theorem busRead_faultsWithBus (s : State) (a : Word) : FaultsWithBus s (s.busRead a) := fun _ h => Or.inl ⟨a, h⟩

theorem pop16_faultsWithBus (s : State) : FaultsWithBus s s.pop16 := by
  intro r h
  obtain hlo | ⟨_, -, hhi⟩ := busRead16_error.mp h
  · exact busRead_faultsWithBus s s.sp r hlo
  · exact busRead_faultsWithBus s (s.sp + 1) r hhi

theorem readOperand_faultsWithBus (s : State) (o : Operand8) : FaultsWithBus s (s.readOperand o) := by
  cases o with
  | reg r => rintro _ ⟨⟩
  | indHl => exact busRead_faultsWithBus s s.hl

theorem busWrite_keepsCycles (s : State) (a : Word) (v : Byte) : KeepsCycles s (s.busWrite a v) := by
  cases h : s.windowOpen a with
  | false => rw [busWrite_of_closed h]; exact busFault_of_closed h
  | true => rw [busWrite_of_open h]; exact deliver_cyc s a v

/-- A write to two addresses: with either window closed the bus faults, and only with both open is there a state left. -/
theorem keepsCycles_of_windows {s : State} {a b : Word} {x : Except Fault State}
    (hclosed : s.windowOpen a = false ∨ s.windowOpen b = false → x = .error .noCartridge)
    (hopen : s.windowOpen a = true → s.windowOpen b = true → KeepsCycles s x) : KeepsCycles s x := by
  cases ha : s.windowOpen a with
  | false => rw [hclosed (Or.inl ha)]; exact busFault_of_closed ha
  | true =>
    cases hb : s.windowOpen b with
    | false => rw [hclosed (Or.inr hb)]; exact busFault_of_closed hb
    | true => exact hopen ha hb

theorem busWrite16_keepsCycles (s : State) (a v : Word) : KeepsCycles s (s.busWrite16 a v) :=
  keepsCycles_of_windows (fun h => busWrite16_of_closed h v) fun ha hb => by
    rw [busWrite16_ok.mpr ⟨ha, hb, rfl⟩]
    exact (deliver_cyc ..).trans (deliver_cyc ..)

theorem push16_keepsCycles (s : State) (v : Word) : KeepsCycles s (s.push16 v) :=
  keepsCycles_of_windows (fun h => push16_of_closed h v) fun ha hb => by
    rw [push16_of_open ha hb]
    exact (deliver_cyc ..).trans (deliver_cyc ..)

theorem writeOperand_keepsCycles (s : State) (o : Operand8) (v : Byte) : KeepsCycles s (s.writeOperand o v) := by
  cases o with
  | reg r => exact setReg_cyc s r v
  | indHl => exact busWrite_keepsCycles s s.hl v

/-! ## The shared meanings that several instructions run -/

theorem applyAlu_cyc (s : State) (op : AluOp) (v : Byte) : (s.applyAlu op v).cyc = s.cyc := by rw [applyAlu_eq]

theorem callTo_answers {m : Cycles} (hm : IsDuration m) (target len : Word) (s : State) : Answers s (callTo target len m s) :=
  answers_storing (push16_keepsCycles s _) fun _ ht => answers_goto hm ht

theorem returnTo_answers {m : Cycles} (hm : IsDuration m) (s : State) : Answers s (returnTo m s) :=
  answers_reading (pop16_faultsWithBus s) fun _ => answers_goto hm rfl

/-- An operand read, then written back, with the flags written or kept at the end (R390). -/
theorem answers_writeBack {s : State} {o : Operand8} {res : Byte → Byte} {finish : Byte → State → State} {len : Word}
    {m mHl : Cycles} (hm : IsDuration m) (hHl : IsDuration mHl) (hfinish : ∀ v t, (finish v t).cyc = t.cyc) :
    Answers s (reading (s.readOperand o) fun v =>
      storing (s.writeOperand o (res v)) fun t => .next ((finish v t).retire len (operandCycles o m mHl))) :=
  answers_reading (readOperand_faultsWithBus s o) fun v => answers_storing (writeOperand_keepsCycles s o (res v)) fun t ht =>
    answers_retire (operandCycles_isDuration hm hHl o) ((hfinish v t).trans ht)

theorem cbShift_answers (op : ShiftOp) (o : Operand8) (s : State) : Answers s (cbShift op o s) :=
  answers_writeBack (finish := fun v t => t.setFlags (shiftResult op v s.flags.c).flags) (by decide) (by decide) fun _ _ => rfl

theorem cbBit_answers (n : BitVec 3) (o : Operand8) (s : State) : Answers s (cbBit n o s) :=
  answers_reading (readOperand_faultsWithBus s o) fun _ =>
    answers_retire (operandCycles_isDuration (by decide) (by decide) o) rfl

theorem cbRes_answers (n : BitVec 3) (o : Operand8) (s : State) : Answers s (cbRes n o s) :=
  answers_writeBack (finish := fun _ t => t) (by decide) (by decide) fun _ _ => rfl

theorem cbSet_answers (n : BitVec 3) (o : Operand8) (s : State) : Answers s (cbSet n o s) :=
  answers_writeBack (finish := fun _ t => t) (by decide) (by decide) fun _ _ => rfl

theorem secondary_answers (n : Byte) (s : State) : Answers s (secondary n s) := by
  unfold secondary
  dsimp only
  split
  · exact cbShift_answers _ _ s
  · exact cbBit_answers _ _ s
  · exact cbRes_answers _ _ s
  · exact cbSet_answers _ _ s

/-! ## Every instruction, and a step -/

/-- Every instruction completes with a duration charged, or faults where the bus does; none is refused. -/
theorem exec_answers (i : Instr) (s : State) : Answers s (exec i s) :=
  exec_by_form s
    (ldRegReg_case := fun dst _ => answers_retire (by decide) (setReg_cyc s dst _))
    (ldRegImm_case := fun dst d8 => answers_retire (by decide) (setReg_cyc s dst d8))
    (ldRegFrom_case := fun dst a _ _ hm =>
      answers_reading (busRead_faultsWithBus s a) fun v => answers_retire hm (setReg_cyc s dst v))
    (ldTo_case := fun a v _ _ hm => answers_storing (busWrite_keepsCycles s a v) fun _ ht => answers_retire hm ht)
    (ldTo16_case := fun a v _ _ hm => answers_storing (busWrite16_keepsCycles s a v) fun _ ht => answers_retire hm ht)
    (ldToHlStep_case := fun _ => answers_storing (busWrite_keepsCycles s _ _) fun _ ht => answers_retire (by decide) ht)
    (ldFromHlStep_case := fun _ => answers_reading (busRead_faultsWithBus s _) fun _ => answers_retire (by decide) rfl)
    (ldPairImm_case := fun rr d16 => answers_retire (by decide) (setPair_cyc s rr d16))
    (ldSpFromHl_case := answers_retire (by decide) rfl)
    (pushPair_case := fun _ => answers_storing (push16_keepsCycles s _) fun _ ht => answers_retire (by decide) ht)
    (popPair_case := fun qq => answers_reading (pop16_faultsWithBus s) fun v =>
      answers_retire (by decide) (setStackPair_cyc _ qq v))
    (aluOperand_case := fun op o => answers_reading (readOperand_faultsWithBus s o) fun v =>
      answers_retire (operandCycles_isDuration (by decide) (by decide) o) (applyAlu_cyc s op v))
    (aluImm_case := fun op d8 => answers_retire (by decide) (applyAlu_cyc s op d8))
    (incOperand_case := fun _ =>
      answers_writeBack (finish := fun v t => t.setFlags (aluInc v s.flags.c).flags) (by decide) (by decide) fun _ _ => rfl)
    (decOperand_case := fun _ =>
      answers_writeBack (finish := fun v t => t.setFlags (aluDec v s.flags.c).flags) (by decide) (by decide) fun _ _ => rfl)
    (addHlPair_case := fun _ => answers_retire (by decide) rfl)
    (addToPair_case := fun rr _ => answers_retire (by decide) (setPair_cyc s rr _))
    (adjustSp_case := fun _ => answers_retire (by decide) rfl)
    (ldHlAdjusted_case := fun _ => answers_retire (by decide) rfl)
    (accRotate_case := fun _ => answers_retire (by decide) rfl)
    (decimalAdjust_case := answers_retire (by decide) rfl)
    (complementA_case := answers_retire (by decide) rfl)
    (setCarry_case := answers_retire (by decide) rfl)
    (complementCarry_case := answers_retire (by decide) rfl)
    (jumpAbs_case := fun _ => answers_goto (by decide) rfl)
    (jumpAbsCc_case := fun cc _ => have hm := condCycles_isDuration (by decide) (by decide) (s.cond cc)
      answers_ite (answers_goto hm rfl) (answers_retire hm rfl))
    (jumpHl_case := answers_goto (by decide) rfl)
    (jumpRel_case := fun _ => answers_goto (by decide) rfl)
    (jumpRelCc_case := fun cc _ => have hm := condCycles_isDuration (by decide) (by decide) (s.cond cc)
      answers_ite (answers_goto hm rfl) (answers_retire hm rfl))
    (callAbs_case := fun a16 => callTo_answers (by decide) a16 3 s)
    (callAbsCc_case := fun cc a16 => have hm := condCycles_isDuration (by decide) (by decide) (s.cond cc)
      answers_ite (callTo_answers hm a16 3 s) (answers_retire hm rfl))
    (returnFrom_case := returnTo_answers (by decide) s)
    (returnCc_case := fun cc => have hm := condCycles_isDuration (by decide) (by decide) (s.cond cc)
      answers_ite (returnTo_answers hm s) (answers_retire hm rfl))
    (restart_case := fun t => callTo_answers (by decide) t 1 s)
    (idle_case := answers_retire (by decide) rfl)
    (haltUnder_case := answers_retire (by decide) rfl)
    (undefUnder_case := fun _ => answers_retire (by decide) rfl)
    (cbShift_case := fun op o => cbShift_answers op o s)
    (cbBit_case := fun n o => cbBit_answers n o s)
    (cbRes_case := fun n o => cbRes_answers n o s)
    (cbSet_case := fun n o => cbSet_answers n o s)
    (secondary_case := fun n => secondary_answers n s)
    i

theorem fetchInstr_faultsWithBus (s : State) : FaultsWithBus s s.fetchInstr := by
  intro r h
  obtain hop | ⟨_, -, hbytes⟩ := fetchInstr_error.mp h
  · exact busRead_faultsWithBus s s.pc r hop
  · exact Or.inl (bytesAt_error hbytes)

theorem step_answers (s : State) : Answers s (step s) := by
  unfold step
  cases h : s.fetchInstr with
  | error r => exact fetchInstr_faultsWithBus s r h
  | ok i => exact exec_answers i s

/-! ## The statements -/

/-- A complete cartridge answers every access, so no fault is left (R75, R114, R115). -/
theorem next_of_answers {s : State} {x : Result} (h : s.ready = true) (hx : Answers s x) : ∃ t, x = .next t := by
  cases x with
  | next t => exact ⟨t, rfl⟩
  | fault r =>
    obtain ⟨a, ha⟩ | ⟨a, v, ha⟩ := hx
    · obtain ⟨v, hv⟩ := ready_busRead h a
      rw [hv] at ha
      cases ha
    · rw [busWrite_of_open (ready_windowOpen h a)] at ha
      cases ha
  | refused r => exact hx.elim

/-- An instruction leaves image and scheme as they are (R123), so a complete cartridge stays complete. -/
theorem exec_keeps_ready {i : Instr} {s t : State} (h : s.ready = true) (ht : exec i s = .next t) : t.ready = true := by
  obtain ⟨ws, -, -, hbus, -⟩ := exec_effect i s t ht
  exact ready_of_sameCart h fun ct hct => hbus.cart ▸ deliverAll_cart hct ws

/-- Settles O50: what an instruction and a step can answer, with no fault of the bus left. -/
theorem completeCartridgeNeverFaults : Obligations.CompleteCartridgeNeverFaults := by
  refine ⟨fun i s h => ?_, fun s h => ?_⟩
  · obtain ⟨t, ht⟩ := next_of_answers h (exec_answers i s)
    exact ⟨t, ht, exec_keeps_ready h ht⟩
  · obtain ⟨t, ht⟩ := next_of_answers h (step_answers s)
    obtain ⟨i, -, hexec⟩ := step_next.mp ht
    exact ⟨t, ht, exec_keeps_ready h hexec⟩

/-- The faults of the bus are the two of the cartridge (R114, R115, R441). -/
theorem busFault_cases {s : State} {r : Fault} (h : s.busFault r) :
    (r = .noCartridge ∧ s.cart = none) ∨ ∃ ct i, s.cart = some ct ∧ r = .cartReadOutOfImage i ∧ ct.image.size ≤ i := by
  obtain ⟨a, ha⟩ | ⟨a, v, ha⟩ := h
  · exact busRead_error ha
  · cases ho : s.windowOpen a with
    | false =>
      rw [busWrite_of_closed ho] at ha
      cases ha
      exact Or.inl ⟨rfl, cart_of_closed ho⟩
    | true =>
      rw [busWrite_of_open ho] at ha
      cases ha

/-- Settles O51: a step answers no fault but the bus's, and no refusal. -/
theorem stepFaultsOnlyAtTheCartridge : Obligations.StepFaultsOnlyAtTheCartridge := by
  intro s
  have hstep := step_answers s
  refine ⟨fun r hr => ?_, fun r hr => ?_⟩
  · rw [hr] at hstep
    exact busFault_cases hstep
  · rw [hr] at hstep
    exact hstep

/-- Settles O57: the duration a step's answer charges, as a number. -/
theorem everyStepChargesOneToSixCycles : Obligations.EveryStepChargesOneToSixCycles := by
  intro s t ht
  have hstep := step_answers s
  rw [ht] at hstep
  obtain ⟨m, ⟨hlow, hhigh⟩, hcyc⟩ := hstep
  exact ⟨m.toNat, hlow, hhigh, by rw [hcyc, BitVec.ofNat_toNat, BitVec.setWidth_eq]⟩

end Sys2Proof.Machine
end

section
/-! The cycle counter (R37, R492): no instruction reads it. -/

namespace Sys2Proof.Machine

/-- A write to the bus does not see the counter. -/
theorem deliver_delayed (s : State) (n : Cycles) (a : Word) (v : Byte) : (s.delayed n).deliver a v = (s.deliver a v).delayed n := by
  unfold State.deliver
  cases decodeAddr a
  case io =>
    show (s.delayed n).ioWrite a v = (s.ioWrite a v).delayed n
    unfold State.ioWrite
    split
    · rfl
    · split <;> rfl
  all_goals rfl

theorem goto_delayed (s : State) (n : Cycles) (a : Word) (m : Cycles) : (s.delayed n).goto a m = (s.goto a m).delayed n := by
  simp [State.goto, State.delayed, add_right_comm]

/-- No register and no read of the bus is the counter, and every update keeps the delay. -/
theorem delay_unobserved (n : Cycles) : Unobserved fun s s' => s' = s.delayed n where
  reg := by rintro s _ rfl r; cases r <;> rfl
  f := by rintro s _ rfl; rfl
  sp := by rintro s _ rfl; rfl
  pc := by rintro s _ rfl; rfl
  busRead := by rintro s _ rfl a; exact SameBus.busRead ⟨rfl, rfl, rfl, rfl, rfl⟩ a
  windowOpen := by rintro s _ rfl a; rfl
  setReg := by rintro s _ rfl r v; cases r <;> rfl
  setF := by rintro s _ rfl v; rfl
  setSp := by rintro s _ rfl v; rfl
  goto := by rintro s _ rfl a m; exact goto_delayed s n a m
  deliver := by rintro s _ rfl a v; exact deliver_delayed s n a v

/-- Two results are related by `g` where the second is the first with `g` applied to its next state. -/
theorem eq_mapNext_of_relResult {g : State → State} {x y : Result} (h : RelResult (fun s s' => s' = g s) x y) :
    y = mapNext g x := by
  cases x <;> cases y
  case next.next t t' => exact congrArg Host.Outcome.next h
  case fault.fault r r' => exact congrArg Host.Outcome.fault h.symm
  case refused.refused r r' => exact congrArg Host.Outcome.refused h.symm
  all_goals exact h.elim

/-- Settles O54: a state and the delayed one are related by `delay_unobserved`, and a step keeps them related. -/
theorem timingAffectsNothingElse : Obligations.TimingAffectsNothingElse := fun _ n =>
  eq_mapNext_of_relResult ((delay_unobserved n).step rfl)

end Sys2Proof.Machine
end

section
/-! Bring-up and the host's interactions (R455, R480 to R486): initialization, load, the post-boot routine, and the invariant
under each interaction. -/

namespace Sys2Proof.Machine

/-! ## The post-boot I/O initialization (R484) -/

/-- The I/O registers that discard what is written to them: all but the serial stub's two (R84, R450, R451). -/
abbrev discardsWrites (a : Word) : Prop := 0xFF00 ≤ a.toNat ∧ a.toNat < 0xFF80 ∧ a ≠ 0xFF01 ∧ a ≠ 0xFF02

theorem busWrite_of_discards {a : Word} (h : discardsWrites a) (s : State) (v : Byte) : s.busWrite a v = .ok s := by
  obtain ⟨hlow, hhigh, hsb, hsc⟩ := h
  have hw : ¬ inCartWindow a := by unfold inCartWindow; omega
  rw [busWrite_of_outside hw, State.deliver, decodeAddr_io ⟨hlow, hhigh⟩]
  simp only [State.ioWrite, if_neg hsb, hsc, false_and, if_false]

theorem busWrites_of_discards {ws : List (Word × Byte)} (h : ∀ w ∈ ws, discardsWrites w.1) (s : State)
    (rest : List (Word × Byte)) : s.busWrites (ws ++ rest) = s.busWrites rest := by
  induction ws with
  | nil => rfl
  | cons w ws ih =>
    rw [List.forall_mem_cons] at h
    rw [List.cons_append, State.busWrites, busWrite_of_discards h.1]
    exact ih h.2

theorem busWrite_ie (s : State) (v : Byte) : s.busWrite 0xFFFF v = .ok { s with ie := v } :=
  busWrite_of_outside (by unfold inCartWindow; decide) s v

theorem discardsWrites_of_postBootWrites : ∀ w ∈ postBootWrites.dropLast, discardsWrites w.1 := by
  have hall : (postBootWrites.dropLast.all fun w => decide (discardsWrites w.1)) = true := by decide
  exact fun w hw => of_decide_eq_true (List.all_eq_true.mp hall w hw)

/-- All writes but the last go to registers that discard them; the last is the interrupt-enable byte's. -/
theorem postBoot_eq (s : State) : s.postBoot = .ok { s.setPostBootRegs with ie := 0x00 } := by
  have hlast : postBootWrites = postBootWrites.dropLast ++ [(0xFFFF, 0x00)] := rfl
  rw [State.postBoot, hlast, busWrites_of_discards discardsWrites_of_postBootWrites, State.busWrites, busWrite_ie]
  rfl

/-- Settles O44: the list as it stands, and its net effect. -/
theorem postBootInitialization : Obligations.PostBootInitialization := ⟨rfl, rfl, postBoot_eq⟩

/-! ## Initialization (R480, R482) and bring-up (R486) -/

/-- Settles O45: `init` is `State.init`, whatever the state before it. -/
theorem initializationState : Obligations.InitializationState := fun _ initMem =>
  ⟨State.init initMem, rfl, rfl, rfl, rfl, rfl, rfl, rfl, rfl, rfl, rfl, rfl, rfl, rfl, rfl, rfl, rfl, rfl, rfl⟩

theorem perform_postBoot (s : State) : perform .postBoot s = .next { s.setPostBootRegs with ie := 0x00 } none := by
  rw [perform, postBoot_eq, Answer.ofState]

/-- Settles O60: a load changes the cartridge alone, and the post-boot routine writes what initialization has written. -/
theorem bringUpOrder : Obligations.BringUpOrder := by
  refine ⟨fun s initMem => ⟨_, rfl, rfl, rfl, rfl, rfl⟩, fun s bytes er => ⟨_, _, _, rfl, rfl, rfl, rfl, rfl, nofun, rfl⟩,
    fun s t m b hm ht => ?_, fun s initMem bytes er => ⟨_, _, rfl, rfl, perform_postBoot _⟩⟩
  obtain ⟨bytes, er, rfl⟩ | rfl | rfl := hm
  · cases bytes with
    | none => cases ht
    | some bytes => cases ht; rfl
  · cases ht; rfl
  · rw [perform_postBoot] at ht
    cases ht; rfl

/-! ## The invariant under the host's interactions (R455) -/

/-- External RAM after a load: none without banking, the given contents with type-1 banking (R106, R483). -/
theorem ofImage_eram (img : Image) (er : Memory) :
    ((Cart.ofImage img er).scheme = .noBanking ∧ (Cart.ofImage img er).eram = []) ∨
      ((Cart.ofImage img er).scheme = .type1 ∧ (Cart.ofImage img er).eram = er) := by
  unfold Cart.ofImage
  cases selectScheme img with
  | noBanking => exact Or.inl ⟨rfl, rfl⟩
  | type1 => exact Or.inr ⟨rfl, rfl⟩

theorem ofImage_inv (bytes : List Byte) {er : Memory} (hwf : er.wf = true)
    (hkeys : er.keysIn (fun k => decide (k < 0x8000)) = true) : (Cart.ofImage (Image.ofBytes bytes) er).inv = true := by
  have himage : (Image.ofBytes bytes).cells.keysIn (fun k => decide (k < bytes.length)) = true :=
    Memory.setList_keysIn bytes rfl 0 (by simp)
  have hbank : (0x01 : BitVec 7).extractLsb' 0 5 ≠ 0 := by decide
  have heram : (Cart.ofImage (Image.ofBytes bytes) er).eram.wf = true ∧
      (Cart.ofImage (Image.ofBytes bytes) er).eram.keysIn (fun k => decide (k < 0x8000)) = true ∧
      ((Cart.ofImage (Image.ofBytes bytes) er).scheme = .type1 ∨ (Cart.ofImage (Image.ofBytes bytes) er).eram = []) := by
    obtain ⟨-, he⟩ | ⟨hs, he⟩ := ofImage_eram (Image.ofBytes bytes) er
    · rw [he]
      exact ⟨rfl, rfl, Or.inr rfl⟩
    · rw [he]
      exact ⟨hwf, hkeys, Or.inl hs⟩
  obtain ⟨heramWf, heramKeys, hnone⟩ := heram
  exact (cart_inv_iff _).mpr
    ⟨Memory.setList_wf rfl 0 bytes, himage, heramWf, heramKeys, rfl, hbank, Or.inr rfl, hnone⟩

/-- The invariant after a write of the post-boot registers, whatever becomes of the rest but buffers and cartridge. -/
theorem inv_of_postBootFlags {s t : State} (h : s.inv = true) (hf : t.f = 0xB0) (hram : t.ram = s.ram) (hcart : t.cart = s.cart) :
    t.inv = true := by
  rw [inv_iff] at h ⊢
  rw [hf, hram, hcart]
  exact ⟨by decide, h.2⟩

theorem load_inv {s : State} (h : s.inv = true) (bytes : List Byte) {er : Memory} (hwf : er.wf = true)
    (hkeys : er.keysIn (fun k => decide (k < 0x8000)) = true) : (s.load bytes er).inv = true := by
  rw [inv_iff] at h ⊢
  obtain ⟨hf, hram, hidx, -⟩ := h
  refine ⟨hf, hram, hidx, ?_⟩
  rintro ct ⟨⟩
  exact ofImage_inv bytes hwf hkeys

theorem unload_inv {s : State} (h : s.inv = true) : s.unload.inv = true := by
  rw [inv_iff] at h ⊢
  obtain ⟨hf, hram, hidx, -⟩ := h
  exact ⟨hf, hram, hidx, nofun⟩

theorem busInit_inv {s : State} (h : s.inv = true) {initMem : Memory} (hwf : initMem.wf = true)
    (hkeys : initMem.keysIn isStorageIndex = true) : (s.busInit initMem).inv = true := by
  obtain ⟨hf, -⟩ := (inv_iff s).mp h
  exact (inv_iff _).mpr ⟨hf, hwf, hkeys, nofun⟩

theorem ofState_next {x : Except Fault State} {t : State} {b : Option Byte} (h : Answer.ofState x = .next t b) : x = .ok t := by
  cases x <;> cases h
  rfl

/-- Settles O49: each interaction writes F with its low bits 0 or keeps it, and writes buffers and cartridge by operations that
keep the invariant. -/
theorem invariantKeptByTheHost : Obligations.InvariantKeptByTheHost := by
  intro s t m b h ht hmem hload
  cases m with
  | init initMem =>
    cases initMem <;> cases ht
    obtain ⟨hwf, hkeys⟩ := hmem _ (Or.inl rfl)
    exact init_inv hwf hkeys
  | busInit initMem =>
    cases initMem <;> cases ht
    obtain ⟨hwf, hkeys⟩ := hmem _ (Or.inr rfl)
    exact busInit_inv h hwf hkeys
  | cpuInit =>
    cases ht
    exact inv_of_postBootFlags h rfl rfl rfl
  | load bytes er =>
    cases bytes <;> cases ht
    obtain ⟨hwf, hkeys⟩ := hload _ _ rfl
    exact load_inv h _ hwf hkeys
  | unload =>
    cases ht
    exact unload_inv h
  | step =>
    rw [perform] at ht
    cases hs : step s <;> rw [hs] at ht <;> cases ht
    exact step_keeps_inv h hs
  | busRead a =>
    rw [perform] at ht
    cases hr : s.busRead a <;> rw [hr] at ht <;> cases ht
    exact h
  | busWrite a v =>
    obtain ⟨-, rfl⟩ := busWrite_ok.mp (ofState_next ht)
    exact deliver_inv h a v
  | postBoot =>
    rw [perform_postBoot] at ht
    cases ht
    exact inv_of_postBootFlags h rfl rfl rfl
  | observe =>
    cases ht
    exact h

end Sys2Proof.Machine
end
